-- ==== Sys2Proof/Word.lean ====
section
/-! DEFINITION. The machine's two word types (00_scope.md R4: CPU data 8 bits, CPU address 16 bits). -/

namespace Sys2Proof

/-- One byte: the CPU data width (00_scope.md R4). -/
abbrev Byte := BitVec 8

/-- A CPU address (00_scope.md R4). -/
abbrev Addr := BitVec 16

end Sys2Proof
end

