-- ==== Sys2Proof/Config.lean ====
section
/-! DEFINITION. What 00_scope.md R4 fixes for every machine, and the one free value.
The launch parameters with an open choice (`IntChargeMode`, `ControllerTail`, `LeftClip`) are the
structure `Params`, which a state carries unchanged. -/

namespace Sys2Proof

/-- A colour of the framebuffer: three bytes, red, green, blue (10_state.md R53). -/
structure Rgb where
  red : Byte
  green : Byte
  blue : Byte
  deriving DecidableEq, Repr, Inhabited

/-- `IntChargeMode` (00_scope.md R4, 60_exceptions.md R449): whether an interrupt entry sets the
remaining-cycle counter to 7 or adds 7 to it. -/
inductive IntChargeMode where
  | assign
  | add
  deriving DecidableEq, Repr

/-- The launch parameters of 00_scope.md R4 whose value is open or switchable. -/
structure Params where
  /-- `IntChargeMode`, default `Assign` (92_eei_decisions.md D3). -/
  intCharge : IntChargeMode
  /-- `ControllerTail`, the bit read after eight shifts, default 0 (92_eei_decisions.md D28). -/
  controllerTail : Bool
  /-- `LeftClip`, default false (92_eei_decisions.md D19; the meaning of true is
  48_ppu_sprites_output.md R399). -/
  leftClip : Bool
  deriving DecidableEq, Repr

namespace Config

/-- `HardwarePalette` (48_ppu_sprites_output.md R404): the source gives none of the 64 values, so this
is a FREE VALUE: nothing can be proved of it. Log 7. -/
opaque hardwarePalette : BitVec 6 → Rgb

/-- The defaults of 00_scope.md R4. Log 9. -/
def defaultParams : Params := { intCharge := .assign, controllerTail := false, leftClip := false }

/-- 2 KB of work RAM (00_scope.md R4). -/
def ramSize : Nat := 2048

/-- 2 KB of nametable RAM (00_scope.md R4). -/
def vramSize : Nat := 2048

/-- 64 sprite entries of 4 bytes (00_scope.md R4). -/
def oamSize : Nat := 256

/-- 8 secondary entries of 4 bytes (10_state.md R51). -/
def secondarySize : Nat := 32

/-- Sprite slots fetched per line (10_state.md R52). -/
def slotCount : Nat := 8

/-- 32 palette indexes (00_scope.md R4). -/
def paletteSize : Nat := 32

/-- A PRG bank is 16 KB (00_scope.md R4). -/
def prgBankSize : Nat := 16384

/-- A CHR bank is 8 KB (00_scope.md R4). -/
def chrBankSize : Nat := 8192

/-- PRG-RAM is 8 KB (00_scope.md R4). -/
def prgRamSize : Nat := 8192

/-- CHR-RAM is 32 banks when the header gives no CHR-ROM (00_scope.md R4). -/
def chrRamBanks : Nat := 32

/-- The storage capacity of 32 banks (70_reset_and_hazards.md R493). -/
def maxBanks : Nat := 32

/-- The trainer is 512 bytes (70_reset_and_hazards.md R491). -/
def trainerSize : Nat := 512

/-- 262 scanlines a frame (00_scope.md R4). -/
def lastScanline : Nat := 261

/-- 341 cycles a scanline (00_scope.md R4). -/
def lastCycle : Nat := 340

/-- A framebuffer is 256 x 240 pixels of three bytes (00_scope.md R4). -/
def frameBytes : Nat := 184320

/-- The NMI vector, $FFFA (20_memory.md R94). -/
def nmiVector : Addr := 0xFFFA#16

/-- The reset vector, $FFFC (20_memory.md R94). -/
def resetVector : Addr := 0xFFFC#16

/-- The IRQ and `BRK` vector, $FFFE (20_memory.md R94). -/
def irqVector : Addr := 0xFFFE#16

end Config
end Sys2Proof
end

