-- ==== Sys2Proof/Machine/Bits.lean ====
section
/-! DEFINITION. Bit slices, extensions and byte order (00_scope.md R5, 20_memory.md R128). -/

namespace Sys2Proof

/-- The low byte `a[7:0]` of a 16-bit value. -/
def loByte (a : Addr) : Byte := a.extractLsb' 0 8

/-- The high byte `a[15:8]` of a 16-bit value: its page. -/
def hiByte (a : Addr) : Byte := a.extractLsb' 8 8

/-- `hi :: lo`, the little-endian word of two bytes (20_memory.md R128). -/
def word16 (hi lo : Byte) : Addr := hi ++ lo

/-- `zext_16(b)` (00_scope.md R5). -/
def zext16 (b : Byte) : Addr := b.setWidth 16

/-- `sext_16(b)` (00_scope.md R5). -/
def sext16 (b : Byte) : Addr := b.signExtend 16

/-- `Rev8` (48_ppu_sprites_output.md R390): bit `i` of the result is bit `7 - i` of `b`. -/
def rev8 (b : Byte) : Byte :=
  b.extractLsb' 0 1 ++ b.extractLsb' 1 1 ++ b.extractLsb' 2 1 ++ b.extractLsb' 3 1 ++
    b.extractLsb' 4 1 ++ b.extractLsb' 5 1 ++ b.extractLsb' 6 1 ++ b.extractLsb' 7 1

/-- A one-bit value as a byte, 0 or 1. -/
def bitByte (b : Bool) : Byte := if b then 1#8 else 0#8

end Sys2Proof
end

