-- ==== Sys2Proof/Machine/Cells.lean ====
section
/-! DEFINITION. A byte memory as a list of (address, byte) cells in one canonical form: addresses strictly
rising, no cell equal to what an unlisted address reads as. Every function takes that unlisted byte `d`:
0 for every memory but secondary OAM, $FF there (10_state.md R70; logs 2, 3, 4). -/

namespace Sys2Proof.Machine

/-- A byte memory in canonical form. -/
abbrev Memory := List Host.Cell

/-- What an unlisted byte of every RAM, ROM and framebuffer reads as (logs 2, 3, 4). -/
def unlistedByte : Byte := 0x00#8

/-- What an unlisted byte of secondary OAM reads as: its power-up value $FF (10_state.md R70). -/
def unlistedSecondary : Byte := 0xFF#8

/-- The byte at address `a`. -/
def Memory.read (d : Byte) : Memory → Nat → Byte
  | [], _ => d
  | (k, v) :: m, a => if a = k then v else if a < k then d else Memory.read d m a

/-- The memory with byte `v` at address `a`. Writing the unlisted byte removes the cell. -/
def Memory.write (d : Byte) : Memory → Nat → Byte → Memory
  | [], a, v => if v = d then [] else [(a, v)]
  | (k, w) :: m, a, v =>
    if a = k then (if v = d then m else (k, v) :: m)
    else if a < k then (if v = d then (k, w) :: m else (a, v) :: (k, w) :: m)
    else (k, w) :: Memory.write d m a v

/-- Every cell of `m` lies at or above `lo` and below `size`, in strictly rising order, and none holds the
unlisted byte. -/
def Memory.wfFrom (d : Byte) (size : Nat) : Nat → Memory → Bool
  | _, [] => true
  | lo, (k, v) :: m =>
    decide (lo ≤ k) && decide (k < size) && decide (v ≠ d) && Memory.wfFrom d size (k + 1) m

/-- The canonical form of a memory of `size` bytes. -/
def Memory.wf (d : Byte) (size : Nat) (m : Memory) : Bool := Memory.wfFrom d size 0 m

/-- The memory that holds `bs` from address `a` on and the unlisted byte elsewhere. -/
def Memory.ofBytes (d : Byte) : Nat → List Byte → Memory
  | _, [] => []
  | a, b :: bs => if b = d then Memory.ofBytes d (a + 1) bs else (a, b) :: Memory.ofBytes d (a + 1) bs

end Sys2Proof.Machine
end

