-- ==== Sys2Proof/Machine/State.lean ====
section
/-! DEFINITION. The state of the machine (10_state.md), the reasons it can stop, and the state after
reset. -/

namespace Sys2Proof.Machine

/-- The CPU registers and hidden state (10_state.md R20 to R31). -/
structure Cpu where
  /-- `A`, R20. -/
  a : Byte
  /-- `X`, R21. -/
  x : Byte
  /-- `Y`, R22. -/
  y : Byte
  /-- `S`, R23. -/
  s : Byte
  /-- `P`, R25: bits N V U B D I Z C from 7 down to 0. -/
  p : Byte
  /-- `PC`, R24. -/
  pc : Addr
  /-- The fetched operand byte, R29. -/
  fetched : Byte
  /-- The resolved effective address, R29. -/
  addr : Addr
  /-- The remaining-cycle counter, R30. -/
  cyc : Nat
  /-- The total-cycle counter, unbounded, R31. -/
  total : Nat
  deriving DecidableEq, Repr

/-- The PPU registers and internal state (10_state.md R33 to R53). -/
structure Ppu where
  /-- $2000, R33. -/
  ctrl : Byte
  /-- $2001, R34. -/
  mask : Byte
  /-- Status bit 7, R35. -/
  vblank : Bool
  /-- Status bit 6, R35. -/
  sprite0 : Bool
  /-- Status bit 5, R35. -/
  overflow : Bool
  /-- $2003, R36. -/
  oamAddr : Byte
  /-- The data-port read buffer, R38. -/
  readBuf : Byte
  /-- 0 to 261, R39. -/
  scanline : Nat
  /-- 0 to 340, R40. -/
  cycle : Nat
  /-- Frame parity, R41. -/
  frameOdd : Bool
  /-- Primary OAM, 256 bytes, R42. -/
  oam : Memory
  /-- Palette RAM, R43. -/
  pal : Memory
  /-- VRAM address, R44. -/
  v : BitVec 15
  /-- Temporary address, R45. -/
  t : BitVec 15
  /-- Fine X, R46. -/
  x : BitVec 3
  /-- Write toggle, R47. -/
  w : Bool
  /-- Low-plane shift register, R48. -/
  bgLo : BitVec 16
  /-- High-plane shift register, R48. -/
  bgHi : BitVec 16
  /-- Palette of the tile in bits 15:8, R49. -/
  palLatch0 : BitVec 2
  /-- Palette of the tile in bits 7:0, R49. -/
  palLatch1 : BitVec 2
  /-- Nametable byte, R50. -/
  ntByte : Byte
  /-- Palette number of the attribute byte, R50. -/
  atBits : BitVec 2
  /-- Low pattern byte, R50. -/
  patLo : Byte
  /-- High pattern byte, R50. -/
  patHi : Byte
  /-- Secondary OAM, evaluation side, 32 bytes, R51. -/
  secEval : Memory
  /-- Entries filled on this line, 0 to 8, R51. -/
  secEvalCount : Nat
  /-- Whether sprite 0 is among them, R51. -/
  secEvalHasZero : Bool
  /-- Secondary OAM, rendering side, 32 bytes, R52. -/
  secRend : Memory
  /-- Entries of the rendering side, 0 to 8, R52. -/
  secRendCount : Nat
  /-- Whether sprite 0 is among them, R52. -/
  secRendHasZero : Bool
  /-- Low pattern byte of each of the 8 slots, R52. -/
  sprLo : Memory
  /-- High pattern byte of each of the 8 slots, R52. -/
  sprHi : Memory
  /-- Framebuffer 0: byte `3 * (256 * row + column) + channel`, R53. -/
  fb0 : Memory
  /-- Framebuffer 1, R53. -/
  fb1 : Memory
  /-- The number of the buffer the presentation side reads (false = 0), R53. -/
  front : Bool
  deriving DecidableEq, Repr

/-- Cartridge storage and header fields (10_state.md R62, 70_reset_and_hazards.md R492). Bank `b` of
`prgRom` is its bytes from `16384 * b`, bank `b` of `chr` its bytes from `8192 * b`. -/
structure Cart where
  /-- `PrgBanks`. -/
  prgBanks : Nat
  /-- `ChrBanks`; 0 means `chr` is 32 banks of CHR-RAM. -/
  chrBanks : Nat
  /-- `HeaderMirroring`: byte 6 bit 0, true = vertical (20_memory.md R114). -/
  vertical : Bool
  /-- Byte 6 bit 1, no effect. -/
  hasPrgRam : Bool
  /-- Byte 6 bit 3, no effect. -/
  fourScreen : Bool
  /-- Byte 7 bit 0, no effect. -/
  vsUnisystem : Bool
  /-- Byte 7 bit 1, no effect. -/
  playChoice : Bool
  /-- Byte 8, no effect. -/
  prgRamCode : Byte
  /-- Byte 9 bit 0, no effect. -/
  tvSystem : Bool
  /-- The trainer's 512 bytes when the header flags it, else empty; mapped nowhere. -/
  trainer : List Byte
  prgRom : Memory
  chr : Memory
  prgRam : Memory
  deriving DecidableEq, Repr

/-- Mapper variant B's registers (10_state.md R64). -/
structure Mmc1 where
  /-- 5-bit serial shift register. -/
  shift : BitVec 5
  /-- Write counter, 0 to 4. -/
  wcount : Nat
  /-- Control. -/
  mctrl : BitVec 5
  /-- CHR-bank-0. -/
  chr0 : BitVec 5
  /-- CHR-bank-1. -/
  chr1 : BitVec 5
  /-- PRG-bank. -/
  prg : BitVec 5
  deriving DecidableEq, Repr

/-- Which mapper variant is present, with its state (10_state.md R63 to R65). -/
inductive Mapper where
  /-- Variant A ("NROM"). -/
  | nrom
  /-- Variant B ("MMC1-like"). -/
  | mmc1 (regs : Mmc1)
  /-- Variant C ("UxROM-like") with its current bank. -/
  | uxrom (bank : Byte)
  deriving DecidableEq, Repr

/-- The four mirroring modes (20_memory.md R100). -/
inductive Mirroring where
  | vertical
  | horizontal
  | singleLow
  | singleHigh
  deriving DecidableEq, Repr

/-- A connected controller (10_state.md R66). -/
structure Pad where
  /-- Written by the host: bit 0 A, 1 B, 2 Select, 3 Start, 4 Up, 5 Down, 6 Left, 7 Right
  (49_dma_controllers.md R432). -/
  buttons : Byte
  strobe : Bool
  shiftReg : Byte
  deriving DecidableEq, Repr

/-- What the host may do between two pulses (00_scope.md R11). -/
inductive HostEvent where
  /-- Call `reset()`. -/
  | reset
  /-- Call `irq()`. -/
  | irq
  /-- Set the buttons of controller 1. -/
  | buttons1 (pressed : Byte)
  /-- Set the buttons of controller 2. -/
  | buttons2 (pressed : Byte)
  deriving DecidableEq, Repr

/-- The host events of one iteration, at the four places between pulses (00_scope.md R12; log 6). -/
structure HostInputs where
  beforeCpu : List HostEvent
  beforePpu1 : List HostEvent
  beforePpu2 : List HostEvent
  beforePpu3 : List HostEvent
  deriving DecidableEq, Repr

/-- The destinations of the CPU address map (20_memory.md R81). -/
inductive BusRegion where
  /-- $0000 to $1FFF. -/
  | ram
  /-- $2000 to $3FFF. -/
  | ppu
  /-- $4014. -/
  | oamDma
  /-- $4016. -/
  | pad1
  /-- $4017. -/
  | pad2
  /-- $4000 to $4013, $4015, $4018 to $5FFF. -/
  | unmapped
  /-- $6000 to $FFFF. -/
  | mapper
  deriving DecidableEq, Repr

/-- Everything the spec gives the machine, and the model's own list of host inputs. -/
structure State where
  cpu : Cpu
  ppu : Ppu
  /-- Work RAM, 2048 bytes (10_state.md R60). -/
  ram : Memory
  /-- Nametable RAM, 2048 bytes (10_state.md R61). -/
  vram : Memory
  cart : Cart
  mapper : Mapper
  /-- The controller at port 1; `none` = not connected. -/
  pad1 : Option Pad
  /-- The controller at port 2; `none` = not connected. -/
  pad2 : Option Pad
  /-- Launch parameters; no step changes them (10_state.md R67). -/
  params : Params
  /-- The model's own field: the host events still to come, one entry an iteration (log 6). -/
  inputs : List HostInputs
  deriving DecidableEq, Repr

/-- Why the machine stops. -/
inductive Fault where
  /-- Raised by the fetch of an opcode byte with no row in the opcode table: `IllegalOpcode(byte)` with the
  address of the byte (30_encoding.md R150, 60_exceptions.md R451). SAFE: the model stops where a chip would
  go on. -/
  | illegalOpcode (opcode : Byte) (at_ : Addr)
  deriving DecidableEq, Repr

/-- Why an instruction has no meaning. -/
inductive Refusal where
  /-- Raised by `exec` for an instruction that has no meaning yet. SAFE: nothing can be proved of it. -/
  | notModelled (mnemonic : String)
  deriving DecidableEq, Repr

/-- The outcome of an instruction or of a step. -/
abbrev Result := Host.Outcome State Fault Refusal

/-- The CPU after power-up: the power-up column of 10_state.md R70. `PC` is the word at $FFFC, given by
the caller. -/
def Cpu.powerUp (pc : Addr) : Cpu :=
  { a := 0#8, x := 0#8, y := 0#8, s := 0xFD#8, p := 0x24#8, pc := pc, fetched := 0#8, addr := 0#16,
    cyc := 7, total := 0 }

/-- The PPU after power-up: the power-up column of 10_state.md R70, with the open contents of OAM,
palette and framebuffers given by the caller. -/
def Ppu.powerUp (oam pal fb0 fb1 : Memory) : Ppu :=
  { ctrl := 0#8, mask := 0#8, vblank := false, sprite0 := false, overflow := false, oamAddr := 0#8,
    readBuf := 0#8, scanline := 0, cycle := 0, frameOdd := false, oam := oam, pal := pal, v := 0#15,
    t := 0#15, x := 0#3, w := false, bgLo := 0#16, bgHi := 0#16, palLatch0 := 0#2, palLatch1 := 0#2,
    ntByte := 0#8, atBits := 0#2, patLo := 0#8, patHi := 0#8, secEval := [], secEvalCount := 0,
    secEvalHasZero := false, secRend := [], secRendCount := 0, secRendHasZero := false, sprLo := [],
    sprHi := [], fb0 := fb0, fb1 := fb1, front := false }

/-- Variant B at power-up (20_memory.md R123). -/
def Mmc1.powerUp : Mmc1 :=
  { shift := 0#5, wcount := 0, mctrl := 0x0C#5, chr0 := 0#5, chr1 := 0#5, prg := 0#5 }

/-- A connected controller at power-up, no button pressed (10_state.md R70; log 5). -/
def Pad.powerUp : Pad := { buttons := 0#8, strobe := false, shiftReg := 0#8 }

/-- The cartridge of the image of 70_reset_and_hazards.md R498 with every PRG and CHR byte 0: one PRG bank,
one CHR-ROM bank, horizontal mirroring, no trainer. DESIGN CHOICE, log 2. -/
def Cart.blank : Cart :=
  { prgBanks := 1, chrBanks := 1, vertical := false, hasPrgRam := false, fourScreen := false,
    vsUnisystem := false, playChoice := false, prgRamCode := 0#8, tvSystem := false, trainer := [],
    prgRom := [], chr := [], prgRam := [] }

/-- The machine right after power-up with the blank variant A cartridge, two controllers with no button
pressed and every RAM byte 0 (10_state.md R70, 70_reset_and_hazards.md R481; logs 2 to 5). The word at
$FFFC of that cartridge is $0000. -/
def State.reset : State :=
  { cpu := Cpu.powerUp 0#16, ppu := Ppu.powerUp [] [] [] [], ram := [], vram := [], cart := Cart.blank,
    mapper := .nrom, pad1 := some Pad.powerUp, pad2 := some Pad.powerUp, params := Config.defaultParams,
    inputs := [] }

end Sys2Proof.Machine
end

