-- ==== Sys2Proof/Machine/Flags.lean ====
section
/-! DEFINITION. The status word `P` (10_state.md R25, R27) and every flag computation of files 41 to 45. -/

namespace Sys2Proof.Machine

/-- `P.C`, bit 0. -/
def flagC (p : Byte) : Bool := p.getLsbD 0
/-- `P.Z`, bit 1. -/
def flagZ (p : Byte) : Bool := p.getLsbD 1
/-- `P.I`, bit 2. -/
def flagI (p : Byte) : Bool := p.getLsbD 2
/-- `P.D`, bit 3. -/
def flagD (p : Byte) : Bool := p.getLsbD 3
/-- `P.B`, bit 4: 0 inside the register (10_state.md R27). -/
def flagB (p : Byte) : Bool := p.getLsbD 4
/-- `P.U`, bit 5: 1 inside the register (10_state.md R27). -/
def flagU (p : Byte) : Bool := p.getLsbD 5
/-- `P.V`, bit 6. -/
def flagV (p : Byte) : Bool := p.getLsbD 6
/-- `P.N`, bit 7. -/
def flagN (p : Byte) : Bool := p.getLsbD 7

/-- `P` with the bits of the one-bit mask `bit` set or cleared. -/
def putBit (bit : Byte) (b : Bool) (p : Byte) : Byte := if b then p ||| bit else p &&& ~~~bit

/-- `P.C <- b`. -/
def putC (b : Bool) (p : Byte) : Byte := putBit 0x01#8 b p
/-- `P.Z <- b`. -/
def putZ (b : Bool) (p : Byte) : Byte := putBit 0x02#8 b p
/-- `P.I <- b`. -/
def putI (b : Bool) (p : Byte) : Byte := putBit 0x04#8 b p
/-- `P.D <- b`. -/
def putD (b : Bool) (p : Byte) : Byte := putBit 0x08#8 b p
/-- `P.V <- b`. -/
def putV (b : Bool) (p : Byte) : Byte := putBit 0x40#8 b p
/-- `P.N <- b`. -/
def putN (b : Bool) (p : Byte) : Byte := putBit 0x80#8 b p

/-- `SetZN(v)` (00_scope.md R6): `P.Z <- (v == 0)`, `P.N <- v[7]`. -/
def putZN (v : Byte) (p : Byte) : Byte := putN (v.getLsbD 7) (putZ (decide (v = 0#8)) p)

/-- The byte `PHP` and `BRK` push: `P | $30` (45_stack_flags_nop.md R284, 44_control_flow.md R266). -/
def pushedByProgram (p : Byte) : Byte := p ||| 0x30#8

/-- The byte an interrupt entry pushes: `(P & $CF) | $20 | (bflag << 4)` (60_exceptions.md R445). -/
def pushedByEntry (bflag : Bool) (p : Byte) : Byte :=
  (p &&& 0xCF#8) ||| 0x20#8 ||| (if bflag then 0x10#8 else 0x00#8)

/-- What `PLP` and `RTI` put into `P` from a pulled byte: `(p & $CF) | $20` (10_state.md R27). -/
def pulledStatus (b : Byte) : Byte := (b &&& 0xCF#8) ||| 0x20#8

/-- `zext_9(A) + zext_9(M) + P.C` (42_arith_logic.md R221). -/
def sum9 (a m : Byte) (c : Bool) : BitVec 9 :=
  a.setWidth 9 + m.setWidth 9 + (if c then 1#9 else 0#9)

/-- `sum[7:0]`. -/
def sumByte (a m : Byte) (c : Bool) : Byte := (sum9 a m c).setWidth 8

/-- `sum[8]`. -/
def sumCarry (a m : Byte) (c : Bool) : Bool := (sum9 a m c).getLsbD 8

/-- `((~(A ^ M)) & (A ^ R))[7]` (42_arith_logic.md R221). -/
def sumOverflow (a m r : Byte) : Bool := ((~~~(a ^^^ m)) &&& (a ^^^ r)).getLsbD 7

/-- The status after `ADC` of `m` to `a` (42_arith_logic.md R221). -/
def adcStatus (a m p : Byte) : Byte :=
  let r := sumByte a m (flagC p)
  putZN r (putV (sumOverflow a m r) (putC (sumCarry a m (flagC p)) p))

/-- The status after a compare of register `r` with `m` (42_arith_logic.md R226 to R228). -/
def compareStatus (r m p : Byte) : Byte := putZN (r - m) (putC (decide (m.toNat ≤ r.toNat)) p)

/-- The status after `BIT` (42_arith_logic.md R229). -/
def bitStatus (a m p : Byte) : Byte :=
  putV (m.getLsbD 6) (putN (m.getLsbD 7) (putZ (decide (a &&& m = 0#8)) p))

/-- The four one-bit shifts of 43_shift_rotate.md: the carry in, the operand, and the pair of bit shifted
out and result. -/
def shiftAsl (m : Byte) (_c : Bool) : Bool × Byte := (m.getLsbD 7, m <<< 1)
/-- `LSR` (R252). -/
def shiftLsr (m : Byte) (_c : Bool) : Bool × Byte := (m.getLsbD 0, m >>> 1)
/-- `ROL` (R253). -/
def shiftRol (m : Byte) (c : Bool) : Bool × Byte :=
  (m.getLsbD 7, (m <<< 1) ||| (if c then 0x01#8 else 0x00#8))
/-- `ROR` (R254). -/
def shiftRor (m : Byte) (c : Bool) : Bool × Byte :=
  (m.getLsbD 0, (m >>> 1) ||| (if c then 0x80#8 else 0x00#8))

/-- The status after a shift whose outcome is `r`: `C` the bit shifted out, `Z` and `N` of the result
(43_shift_rotate.md R250). -/
def shiftStatus (r : Bool × Byte) (p : Byte) : Byte := putZN r.2 (putC r.1 p)

end Sys2Proof.Machine
end

