-- ==== Sys2Proof/Machine/Regs.lean ====
section
/-! DEFINITION. The named writes of registers and memories: every field of a state has one, and every other
operation goes through them. -/

namespace Sys2Proof.Machine

/-- `A <- v`. -/
def State.setA (v : Byte) (s : State) : State := { s with cpu := { s.cpu with a := v } }
/-- `X <- v`. -/
def State.setX (v : Byte) (s : State) : State := { s with cpu := { s.cpu with x := v } }
/-- `Y <- v`. -/
def State.setY (v : Byte) (s : State) : State := { s with cpu := { s.cpu with y := v } }
/-- `S <- v`. -/
def State.setS (v : Byte) (s : State) : State := { s with cpu := { s.cpu with s := v } }
/-- `P <- v`. -/
def State.setP (v : Byte) (s : State) : State := { s with cpu := { s.cpu with p := v } }
/-- `PC <- v`. -/
def State.setPc (v : Addr) (s : State) : State := { s with cpu := { s.cpu with pc := v } }
/-- `fetched <- v`. -/
def State.setFetched (v : Byte) (s : State) : State := { s with cpu := { s.cpu with fetched := v } }
/-- `addr <- v`. -/
def State.setAddr (v : Addr) (s : State) : State := { s with cpu := { s.cpu with addr := v } }
/-- `cyc <- n`. -/
def State.setCyc (n : Nat) (s : State) : State := { s with cpu := { s.cpu with cyc := n } }
/-- `total <- n`. -/
def State.setTotal (n : Nat) (s : State) : State := { s with cpu := { s.cpu with total := n } }
/-- The PPU replaced. -/
def State.setPpu (p : Ppu) (s : State) : State := { s with ppu := p }
/-- Work RAM replaced. -/
def State.setRam (m : Memory) (s : State) : State := { s with ram := m }
/-- Nametable RAM replaced. -/
def State.setVram (m : Memory) (s : State) : State := { s with vram := m }
/-- Cartridge storage replaced. -/
def State.setCart (c : Cart) (s : State) : State := { s with cart := c }
/-- Mapper state replaced. -/
def State.setMapper (m : Mapper) (s : State) : State := { s with mapper := m }
/-- Controller 1 replaced. -/
def State.setPad1 (p : Option Pad) (s : State) : State := { s with pad1 := p }
/-- Controller 2 replaced. -/
def State.setPad2 (p : Option Pad) (s : State) : State := { s with pad2 := p }
/-- The host inputs still to come replaced. -/
def State.setInputs (l : List HostInputs) (s : State) : State := { s with inputs := l }

/-- `cyc <- cyc + n`. -/
def State.addCyc (n : Nat) (s : State) : State := s.setCyc (s.cpu.cyc + n)

/-- `P` replaced by a function of itself. -/
def State.mapP (f : Byte → Byte) (s : State) : State := s.setP (f s.cpu.p)

/-- `SetZN(v)` on the status word (00_scope.md R6). -/
def State.setZN (v : Byte) (s : State) : State := s.mapP (putZN v)

/-- `ram[i]`. -/
def ramRead (s : State) (i : Nat) : Byte := s.ram.read unlistedByte i
/-- `ram[i] <- v`. -/
def ramWrite (s : State) (i : Nat) (v : Byte) : State := s.setRam (s.ram.write unlistedByte i v)
/-- `vram[i]`. -/
def vramRead (s : State) (i : Nat) : Byte := s.vram.read unlistedByte i
/-- `vram[i] <- v`. -/
def vramWrite (s : State) (i : Nat) (v : Byte) : State := s.setVram (s.vram.write unlistedByte i v)
/-- `prgRam[i]`. -/
def prgRamRead (s : State) (i : Nat) : Byte := s.cart.prgRam.read unlistedByte i
/-- `prgRam[i] <- v`. -/
def prgRamWrite (s : State) (i : Nat) (v : Byte) : State :=
  s.setCart { s.cart with prgRam := s.cart.prgRam.write unlistedByte i v }
/-- Byte `i` of PRG-ROM, bank `i / 16384`. -/
def prgRomRead (s : State) (i : Nat) : Byte := s.cart.prgRom.read unlistedByte i
/-- Byte `i` of CHR storage, bank `i / 8192`. -/
def chrRead (s : State) (i : Nat) : Byte := s.cart.chr.read unlistedByte i
/-- Byte `i` of CHR storage `<- v`. -/
def chrWrite (s : State) (i : Nat) (v : Byte) : State :=
  s.setCart { s.cart with chr := s.cart.chr.write unlistedByte i v }
/-- `oam[i]`. -/
def oamRead (p : Ppu) (i : Nat) : Byte := p.oam.read unlistedByte i
/-- `oam[i] <- v`. -/
def oamWrite (p : Ppu) (i : Nat) (v : Byte) : Ppu := { p with oam := p.oam.write unlistedByte i v }

/-- `PalIndex(i)` of the low five bits of `i` (20_memory.md R103): $10, $14, $18, $1C are $00, $04, $08,
$0C. -/
def palIndex (i : Nat) : Nat :=
  let j := i % 32
  if j &&& 0x13 = 0x10 then j &&& 0x0F else j

/-- `PalRd(i)` (20_memory.md R104). -/
def palRead (p : Ppu) (i : Nat) : Byte := p.pal.read unlistedByte (palIndex i)
/-- `PalWr(i, v)` (20_memory.md R105). -/
def palWrite (p : Ppu) (i : Nat) (v : Byte) : Ppu :=
  { p with pal := p.pal.write unlistedByte (palIndex i) v }

end Sys2Proof.Machine
end

