-- ==== Sys2Proof/Machine/MapperBus.lean ====
section
/-! DEFINITION. The three mapper variants and the PPU address space behind them (20_memory.md R96 to R127). -/

namespace Sys2Proof.Machine

/-- `Bank(n)`: `n mod PrgBanks` (20_memory.md R122). -/
def prgBankMod (c : Cart) (n : Nat) : Nat := n % c.prgBanks

/-- The number of 8 KB CHR banks: the header's count, or 32 of CHR-RAM (20_memory.md R119). -/
def chrBankCount (c : Cart) : Nat := if c.chrBanks = 0 then Config.chrRamBanks else c.chrBanks

/-- Whether CHR storage is RAM: header count 0 (10_state.md R62). -/
def chrIsRam (c : Cart) : Bool := decide (c.chrBanks = 0)

/-- `Unit(n)`: `n mod N4` of the 4 KB units (20_memory.md R119). -/
def chrUnitMod (c : Cart) (n : Nat) : Nat := n % (2 * chrBankCount c)

/-- Variant B's PRG bank in the window at $8000 (`high = false`) or $C000 (20_memory.md R118). -/
def mmc1PrgBank (c : Cart) (r : Mmc1) (high : Bool) : Nat :=
  let b := r.prg.toNat % 16
  match r.mctrl.toNat / 4 % 4, high with
  | 0, false => prgBankMod c (b &&& 0xE)
  | 0, true => prgBankMod c ((b &&& 0xE) ||| 1)
  | 1, false => prgBankMod c (b &&& 0xE)
  | 1, true => prgBankMod c ((b &&& 0xE) ||| 1)
  | 2, false => prgBankMod c 0
  | 2, true => prgBankMod c b
  | _, false => prgBankMod c b
  | _, true => prgBankMod c (c.prgBanks - 1)

/-- The PRG bank seen in the window at $8000 (`high = false`) or $C000; `none` where the selected bank does
not exist (20_memory.md R112, R118, R125). -/
def prgWindow (s : State) (high : Bool) : Option Nat :=
  match s.mapper with
  | .nrom => some (if high then s.cart.prgBanks - 1 else 0)
  | .mmc1 r => some (mmc1PrgBank s.cart r high)
  | .uxrom bank =>
    if high then some (s.cart.prgBanks - 1)
    else if bank.toNat < s.cart.prgBanks then some bank.toNat else none

/-- Whether $6000 to $7FFF reaches PRG-RAM (20_memory.md R112, R120, R126). -/
def prgRamEnabled (s : State) : Bool :=
  match s.mapper with
  | .nrom => true
  | .mmc1 r => !r.prg.getLsbD 4
  | .uxrom _ => true

/-- `prgRom[bank][a & $3FFF]` of the window `a` lies in, 0 where no bank is there (20_memory.md R111). -/
def prgWindowByte (s : State) (high : Bool) (a : Nat) : Byte :=
  match prgWindow s high with
  | some bank => prgRomRead s (bank * Config.prgBankSize + a % Config.prgBankSize)
  | none => 0#8

/-- `MapperCpuRead(a)` for $6000 to $FFFF: no side effect (20_memory.md R93). -/
def mapperCpuRead (s : State) (a : Nat) : Byte :=
  if a < 0x8000 then (if prgRamEnabled s then prgRamRead s (a - 0x6000) else 0#8)
  else prgWindowByte s (decide (0xC000 ≤ a)) a

/-- Variant B's serial write (20_memory.md R115, R116). -/
def mmc1Serial (r : Mmc1) (a : Nat) (v : Byte) : Mmc1 :=
  if v.getLsbD 7 then { r with shift := 0#5, wcount := 0 }
  else
    let sh := (r.shift >>> 1) ||| (if v.getLsbD 0 then 0x10#5 else 0#5)
    if r.wcount + 1 = 5 then
      let r := { r with shift := 0#5, wcount := 0 }
      if a < 0xA000 then { r with mctrl := sh }
      else if a < 0xC000 then { r with chr0 := sh }
      else if a < 0xE000 then { r with chr1 := sh }
      else { r with prg := sh }
    else { r with shift := sh, wcount := r.wcount + 1 }

/-- The least `k'` from `k` on (within `fuel`) with `2^k' >= n` (20_memory.md R124). -/
def leastWidth : Nat → Nat → Nat → Nat
  | 0, k, _ => k
  | fuel + 1, k, n => if n ≤ 2 ^ k then k else leastWidth fuel (k + 1) n

/-- Variant C's bank register after a write of `v`: `v & (2^k - 1)` (20_memory.md R124). The bank register
is 8 bits, so `k` is at most 8. -/
def uxromBank (c : Cart) (v : Byte) : Byte := v &&& BitVec.ofNat 8 (2 ^ leastWidth 8 0 c.prgBanks - 1)

/-- `MapperCpuWrite(a, v)` for $6000 to $FFFF (20_memory.md R112, R115, R120, R124, R127). -/
def mapperCpuWrite (s : State) (a : Nat) (v : Byte) : State :=
  if a < 0x8000 then (if prgRamEnabled s then prgRamWrite s (a - 0x6000) v else s)
  else
    match s.mapper with
    | .nrom => s
    | .mmc1 r => s.setMapper (.mmc1 (mmc1Serial r a v))
    | .uxrom _ => s.setMapper (.uxrom (uxromBank s.cart v))

/-- Variant B's 4 KB unit at $0000 (`high = false`) or $1000 (20_memory.md R119). -/
def mmc1ChrUnit (c : Cart) (r : Mmc1) (high : Bool) : Nat :=
  if r.mctrl.getLsbD 4 then chrUnitMod c (if high then r.chr1.toNat else r.chr0.toNat)
  else chrUnitMod c (if high then (r.chr0.toNat &&& 0x1E) ||| 1 else r.chr0.toNat &&& 0x1E)

/-- The byte of CHR storage behind PPU address `a` at most $1FFF (20_memory.md R113, R119, R126). -/
def chrCell (s : State) (a : Nat) : Nat :=
  match s.mapper with
  | .nrom => a
  | .mmc1 r => mmc1ChrUnit s.cart r (decide (0x1000 ≤ a)) * 4096 + a % 4096
  | .uxrom _ => a

/-- `MapperPpuRead(a)` (20_memory.md R113, R119, R126). -/
def mapperPpuRead (s : State) (a : Nat) : Byte := chrRead s (chrCell s a)

/-- `MapperPpuWrite(a, v)`: a no-op on CHR-ROM (20_memory.md R111, R113). -/
def mapperPpuWrite (s : State) (a : Nat) (v : Byte) : State :=
  if chrIsRam s.cart then chrWrite s (chrCell s a) v else s

/-- The mirroring mode the mapper supplies (20_memory.md R114, R117, R121, R126). -/
def mirroring (s : State) : Mirroring :=
  match s.mapper with
  | .nrom => if s.cart.vertical then .vertical else .horizontal
  | .mmc1 r =>
    match r.mctrl.toNat % 4 with
    | 0 => .singleLow
    | 1 => .singleHigh
    | 2 => .vertical
    | _ => .horizontal
  | .uxrom _ => if s.cart.vertical then .vertical else .horizontal

/-- `Mirror(mode, o)` (20_memory.md R100). -/
def mirrorOffset (mode : Mirroring) (o : Nat) : Nat :=
  match mode with
  | .vertical => o &&& 0x07FF
  | .horizontal => o &&& 0x0BFF
  | .singleLow => o &&& 0x03FF
  | .singleHigh => (o &&& 0x03FF) ||| 0x0400

/-- `NtIndex(a)` (20_memory.md R99): the mirrored offset folded into the 2 KB store. -/
def ntIndex (mode : Mirroring) (a : Nat) : Nat :=
  let m := mirrorOffset mode (a &&& 0x0FFF)
  if 0x0800 ≤ m then m - 0x0400 else m

/-- `PpuRd(a)` (20_memory.md R97, R98). -/
def ppuRd (s : State) (a : BitVec 14) : Byte :=
  if a.toNat ≤ 0x1FFF then mapperPpuRead s a.toNat else vramRead s (ntIndex (mirroring s) a.toNat)

/-- `PpuWr(a, v)` (20_memory.md R97, R98). -/
def ppuWr (s : State) (a : BitVec 14) (v : Byte) : State :=
  if a.toNat ≤ 0x1FFF then mapperPpuWrite s a.toNat v else vramWrite s (ntIndex (mirroring s) a.toNat) v

end Sys2Proof.Machine
end

