-- ==== Sys2Proof/Machine/PpuRegs.lean ====
section
/-! DEFINITION. The PPU registers $2000 to $2007 (46_ppu_registers.md) and the scroll updates they share
with the rendering pipeline (47_ppu_background.md R360 to R363). -/

namespace Sys2Proof.Machine

/-- Coarse X, `v[4:0]` (10_state.md R44). -/
def coarseX (v : BitVec 15) : BitVec 5 := v.extractLsb' 0 5
/-- Coarse Y, `v[9:5]`. -/
def coarseY (v : BitVec 15) : BitVec 5 := v.extractLsb' 5 5
/-- Nametable select, `v[11:10]`. -/
def ntSelect (v : BitVec 15) : BitVec 2 := v.extractLsb' 10 2
/-- Fine Y, `v[14:12]`. -/
def fineY (v : BitVec 15) : BitVec 3 := v.extractLsb' 12 3

/-- `IncCoarseX()` (47_ppu_background.md R360). -/
def incCoarseX (v : BitVec 15) : BitVec 15 :=
  if coarseX v = 31#5 then (v &&& 0x7FE0#15) ^^^ 0x0400#15 else v + 1#15

/-- `IncFineY()` (47_ppu_background.md R361). -/
def incFineY (v : BitVec 15) : BitVec 15 :=
  if fineY v = 7#3 then
    let u := v &&& 0x0FFF#15
    if coarseY v = 29#5 then (u &&& 0x7C1F#15) ^^^ 0x0800#15
    else if coarseY v = 31#5 then u &&& 0x7C1F#15
    else u + 0x0020#15
  else v + 0x1000#15

/-- `CopyHorizontal()` (47_ppu_background.md R362): `v[4:0]` and `v[10]` from `t`. -/
def copyHorizontal (t v : BitVec 15) : BitVec 15 := (v &&& 0x7BE0#15) ||| (t &&& 0x041F#15)

/-- `CopyVertical()` (47_ppu_background.md R363): `v[9:5]`, `v[11]` and `v[14:12]` from `t`. -/
def copyVertical (t v : BitVec 15) : BitVec 15 := (v &&& 0x041F#15) ||| (t &&& 0x7BE0#15)

/-- `ctrl.inc32`, bit 2 (46_ppu_registers.md R302). -/
def Ppu.inc32 (p : Ppu) : Bool := p.ctrl.getLsbD 2
/-- `ctrl.spTable`, bit 3. -/
def Ppu.spTable (p : Ppu) : Bool := p.ctrl.getLsbD 3
/-- `ctrl.bgTable`, bit 4. -/
def Ppu.bgTable (p : Ppu) : Bool := p.ctrl.getLsbD 4
/-- `ctrl.spTall`, bit 5. -/
def Ppu.spTall (p : Ppu) : Bool := p.ctrl.getLsbD 5
/-- `ctrl.nmiEnable`, bit 7. -/
def Ppu.nmiEnable (p : Ppu) : Bool := p.ctrl.getLsbD 7
/-- `mask.grey`, bit 0 (46_ppu_registers.md R310). -/
def Ppu.grey (p : Ppu) : Bool := p.mask.getLsbD 0
/-- `mask.bgLeft`, bit 1. -/
def Ppu.bgLeft (p : Ppu) : Bool := p.mask.getLsbD 1
/-- `mask.spLeft`, bit 2. -/
def Ppu.spLeft (p : Ppu) : Bool := p.mask.getLsbD 2
/-- `mask.showBg`, bit 3. -/
def Ppu.showBg (p : Ppu) : Bool := p.mask.getLsbD 3
/-- `mask.showSp`, bit 4. -/
def Ppu.showSp (p : Ppu) : Bool := p.mask.getLsbD 4

/-- Rendering enabled (46_ppu_registers.md R312). -/
def renderingEnabled (p : Ppu) : Bool := p.showBg || p.showSp

/-- A rendering line: visible or pre-render (47_ppu_background.md R340). -/
def renderingLine (l : Nat) : Bool := decide (l ≤ 239) || decide (l = 261)

/-- Rendering active (46_ppu_registers.md R312). -/
def renderingActive (p : Ppu) : Bool := renderingEnabled p && renderingLine p.scanline

/-- `IncV()` (46_ppu_registers.md R332). -/
def incV (p : Ppu) : Ppu :=
  if renderingActive p then { p with v := incFineY (incCoarseX p.v) }
  else { p with v := p.v + (if p.inc32 then 32#15 else 1#15) }

/-- `pa = v & $3FFF` (46_ppu_registers.md R330). -/
def dataPortAddr (p : Ppu) : BitVec 14 := p.v.setWidth 14

/-- The three status flags as the byte a $2002 read returns (46_ppu_registers.md R314 to R316). -/
def statusByte (p : Ppu) : Byte :=
  (if p.vblank then 0x80#8 else 0#8) ||| (if p.sprite0 then 0x40#8 else 0#8) |||
    (if p.overflow then 0x20#8 else 0#8)

/-- The value a $2007 read returns (46_ppu_registers.md R331). -/
def dataPortValue (p : Ppu) : Byte :=
  if 0x3F00 ≤ (dataPortAddr p).toNat then palRead p (dataPortAddr p).toNat else p.readBuf

/-- The value a read of register `r` returns (46_ppu_registers.md R300). -/
def ppuRegPeek (s : State) (r : Nat) : Byte :=
  match r with
  | 2 => statusByte s.ppu
  | 4 => oamRead s.ppu s.ppu.oamAddr.toNat
  | 7 => dataPortValue s.ppu
  | _ => 0#8

/-- The side effect of a read of register `r`: $2002 clears `vblank` and `w` (R316), $2007 refills the
buffer and increments `v` (R331). -/
def ppuRegTouch (s : State) (r : Nat) : State :=
  match r with
  | 2 => s.setPpu { s.ppu with vblank := false, w := false }
  | 7 => s.setPpu (incV { s.ppu with readBuf := ppuRd s (dataPortAddr s.ppu) })
  | _ => s

/-- $2000: `t[11:10] <- val[1:0]` (46_ppu_registers.md R303). -/
def tAfterCtrl (t : BitVec 15) (v : Byte) : BitVec 15 :=
  (t &&& 0x73FF#15) ||| ((v.setWidth 15 &&& 0x0003#15) <<< 10)

/-- First $2005 write: `t[4:0] <- val[7:3]` (46_ppu_registers.md R323). -/
def tAfterScroll1 (t : BitVec 15) (v : Byte) : BitVec 15 := (t &&& 0x7FE0#15) ||| (v >>> 3).setWidth 15

/-- Second $2005 write: `t[14:12] <- val[2:0]`, `t[9:5] <- val[7:3]` (46_ppu_registers.md R324). -/
def tAfterScroll2 (t : BitVec 15) (v : Byte) : BitVec 15 :=
  (t &&& 0x0C1F#15) ||| ((v.setWidth 15 &&& 0x0007#15) <<< 12) ||| ((v >>> 3).setWidth 15 <<< 5)

/-- First $2006 write: `t[13:8] <- val[5:0]`, `t[14] <- 0` (46_ppu_registers.md R326). -/
def tAfterAddr1 (t : BitVec 15) (v : Byte) : BitVec 15 :=
  (t &&& 0x00FF#15) ||| ((v.setWidth 15 &&& 0x003F#15) <<< 8)

/-- Second $2006 write: `t[7:0] <- val` (46_ppu_registers.md R327). -/
def tAfterAddr2 (t : BitVec 15) (v : Byte) : BitVec 15 := (t &&& 0x7F00#15) ||| v.setWidth 15

/-- A write to $2005 (46_ppu_registers.md R323, R324). -/
def scrollWrite (p : Ppu) (v : Byte) : Ppu :=
  if p.w then { p with t := tAfterScroll2 p.t v, w := false }
  else { p with t := tAfterScroll1 p.t v, x := v.setWidth 3, w := true }

/-- A write to $2006 (46_ppu_registers.md R326, R327). -/
def addrWrite (p : Ppu) (v : Byte) : Ppu :=
  if p.w then { p with t := tAfterAddr2 p.t v, v := tAfterAddr2 p.t v, w := false }
  else { p with t := tAfterAddr1 p.t v, w := true }

/-- The byte store of a $2007 write, before the increment (46_ppu_registers.md R333). -/
def dataPortStore (s : State) (v : Byte) : State :=
  if 0x3F00 ≤ (dataPortAddr s.ppu).toNat then s.setPpu (palWrite s.ppu (dataPortAddr s.ppu).toNat v)
  else ppuWr s (dataPortAddr s.ppu) v

/-- A write to $2007 (46_ppu_registers.md R333). -/
def dataPortWrite (s : State) (v : Byte) : State :=
  let s1 := dataPortStore s v
  s1.setPpu (incV s1.ppu)

/-- A write of `v` to register `r` (46_ppu_registers.md R300). -/
def ppuRegWrite (s : State) (r : Nat) (v : Byte) : State :=
  match r with
  | 0 => s.setPpu { s.ppu with ctrl := v, t := tAfterCtrl s.ppu.t v }
  | 1 => s.setPpu { s.ppu with mask := v }
  | 3 => s.setPpu { s.ppu with oamAddr := v }
  | 4 => s.setPpu { oamWrite s.ppu s.ppu.oamAddr.toNat v with oamAddr := s.ppu.oamAddr + 1#8 }
  | 5 => s.setPpu (scrollWrite s.ppu v)
  | 6 => s.setPpu (addrWrite s.ppu v)
  | 7 => dataPortWrite s v
  | _ => s

end Sys2Proof.Machine
end

