-- ==== Sys2Proof/Machine/Bus.lean ====
section
/-! DEFINITION. The CPU bus (20_memory.md R80 to R95), OAM DMA and the controller ports
(49_dma_controllers.md). `CpuRead(a, ro)` is split into the value it returns, `busPeek`, and what a read
with `ro = false` does besides, `busTouch`: the value is the same for both values of `ro` (R82). -/

namespace Sys2Proof.Machine

/-- The row of the CPU address map that `a` falls in (20_memory.md R81). -/
def busRegion (a : Addr) : BusRegion :=
  if a.toNat < 0x2000 then .ram
  else if a.toNat < 0x4000 then .ppu
  else if a.toNat = 0x4014 then .oamDma
  else if a.toNat = 0x4016 then .pad1
  else if a.toNat = 0x4017 then .pad2
  else if a.toNat < 0x6000 then .unmapped
  else .mapper

/-- `ram[a & $07FF]` (20_memory.md R84). -/
def ramIndex (a : Addr) : Nat := a.toNat % 2048

/-- The number of the PPU register, `a & 7` (20_memory.md R85). -/
def ppuRegIndex (a : Addr) : Nat := a.toNat % 8

/-- The bit a controller read returns, in bit 0 (49_dma_controllers.md R433). -/
def padPeek : Option Pad → Byte
  | none => 0#8
  | some p => if p.strobe then bitByte (p.buttons.getLsbD 0) else bitByte (p.shiftReg.getLsbD 0)

/-- The side effect of a controller read (49_dma_controllers.md R433). -/
def padTouch (tail : Bool) : Option Pad → Option Pad
  | none => none
  | some p =>
    if p.strobe then some { p with shiftReg := p.buttons }
    else some { p with shiftReg := (p.shiftReg >>> 1) ||| (if tail then 0x80#8 else 0#8) }

/-- A strobe write (49_dma_controllers.md R431). -/
def padStrobe (v : Byte) : Option Pad → Option Pad
  | none => none
  | some p =>
    if v.getLsbD 0 then some { p with strobe := true, shiftReg := p.buttons }
    else some { p with strobe := false }

/-- The byte `CpuRead(a, ro)` returns, for either `ro` (20_memory.md R82). -/
def busPeek (s : State) (a : Addr) : Byte :=
  match busRegion a with
  | .ram => ramRead s (ramIndex a)
  | .ppu => ppuRegPeek s (ppuRegIndex a)
  | .oamDma => 0#8
  | .pad1 => padPeek s.pad1
  | .pad2 => padPeek s.pad2
  | .unmapped => 0#8
  | .mapper => mapperCpuRead s a.toNat

/-- The state after `CpuRead(a, false)` (20_memory.md R82, R131). -/
def busTouch (s : State) (a : Addr) : State :=
  match busRegion a with
  | .ram => s
  | .ppu => ppuRegTouch s (ppuRegIndex a)
  | .oamDma => s
  | .pad1 => s.setPad1 (padTouch s.params.controllerTail s.pad1)
  | .pad2 => s.setPad2 (padTouch s.params.controllerTail s.pad2)
  | .unmapped => s
  | .mapper => s

/-- `CpuRead(a, ro)`: the byte and the state after (20_memory.md R82). With `ro = true` it is the debug read
of 60_exceptions.md R470. -/
def cpuRead (s : State) (a : Addr) (ro : Bool) : Byte × State :=
  (busPeek s a, if ro then s else busTouch s a)

/-- Byte `i` of an OAM DMA from page `page`: a side-effecting read, then a store to
`oam[(oamAddr + i) & $FF]` (49_dma_controllers.md R420, R422). -/
def dmaByte (page : Byte) (i : Byte) (s : State) : State :=
  let b := busPeek s (word16 page i)
  let s1 := busTouch s (word16 page i)
  s1.setPpu (oamWrite s1.ppu (s1.ppu.oamAddr + i).toNat b)

/-- Bytes `i`, `i + 1`, … of an OAM DMA, `n` of them, in ascending order (49_dma_controllers.md R420). -/
def dmaBytes (page : Byte) : Nat → Nat → State → State
  | 0, _, s => s
  | n + 1, i, s => dmaBytes page n (i + 1) (dmaByte page (BitVec.ofNat 8 i) s)

/-- `StallForDma()` (49_dma_controllers.md R421). -/
def stallForDma (s : State) : State := s.addCyc (513 + s.cpu.total % 2)

/-- The whole of an OAM DMA (49_dma_controllers.md R420). -/
def oamDma (page : Byte) (s : State) : State := stallForDma (dmaBytes page 256 0 s)

/-- `CpuWrite(a, v)` (20_memory.md R83). -/
def busWrite (s : State) (a : Addr) (v : Byte) : State :=
  match busRegion a with
  | .ram => ramWrite s (ramIndex a) v
  | .ppu => ppuRegWrite s (ppuRegIndex a) v
  | .oamDma => oamDma v s
  | .pad1 => (s.setPad1 (padStrobe v s.pad1)).setPad2 (padStrobe v s.pad2)
  | .pad2 => s
  | .unmapped => s
  | .mapper => mapperCpuWrite s a.toNat v

end Sys2Proof.Machine
end

