-- ==== Sys2Proof/Machine/Ops.lean ====
section
/-! DEFINITION. The shared operations over memory and registers: the stack, taking an exception and returning
from one, the host's calls (60_exceptions.md, 70_reset_and_hazards.md R483). -/

namespace Sys2Proof.Machine

/-- `Rd16(a)`: two side-effecting reads, low byte first (00_scope.md R7). -/
def rd16 (s : State) (a : Addr) : Addr × State :=
  let lo := busPeek s a
  let s1 := busTouch s a
  let hi := busPeek s1 (a + 1#16)
  (word16 hi lo, busTouch s1 (a + 1#16))

/-- `$0100 | S` (60_exceptions.md R440). -/
def stackAddr (s : Byte) : Addr := word16 0x01#8 s

/-- `Push(v)` (60_exceptions.md R440). -/
def push (v : Byte) (s : State) : State := (busWrite s (stackAddr s.cpu.s) v).setS (s.cpu.s - 1#8)

/-- `Pull()` (60_exceptions.md R440): the byte and the state after. -/
def pull (s : State) : Byte × State :=
  let s1 := s.setS (s.cpu.s + 1#8)
  (busPeek s1 (stackAddr s1.cpu.s), busTouch s1 (stackAddr s1.cpu.s))

/-- A 16-bit word pushed high byte first (44_control_flow.md R262, 60_exceptions.md R445). -/
def pushWord (v : Addr) (s : State) : State := push (loByte v) (push (hiByte v) s)

/-- A 16-bit word pulled low byte first (44_control_flow.md R263, R264). -/
def pullWord (s : State) : Addr × State :=
  let (lo, s1) := pull s
  let (hi, s2) := pull s1
  (word16 hi lo, s2)

/-- TAKING AN EXCEPTION: the pushes, the mask and the vector of `Enter(vector, bflag)` (60_exceptions.md
R445), without the charge, which `BRK` takes from its table entry. -/
def takeException (vector : Addr) (bflag : Bool) (s : State) : State :=
  let s1 := pushWord s.cpu.pc s
  let s2 := push (pushedByEntry bflag s1.cpu.p) s1
  let s3 := s2.mapP (putI true)
  let (target, s4) := rd16 s3 vector
  s4.setPc target

/-- `Charge7()` (60_exceptions.md R449). -/
def charge7 (s : State) : State :=
  match s.params.intCharge with
  | .assign => s.setCyc 7
  | .add => s.addCyc 7

/-- `Enter(vector, 0)` (60_exceptions.md R445). -/
def enterInterrupt (vector : Addr) (s : State) : State := charge7 (takeException vector false s)

/-- THE RETURN FROM AN EXCEPTION, the pulls of `RTI` (44_control_flow.md R264). -/
def returnFromException (s : State) : State :=
  let (b, s1) := pull s
  let s2 := s1.setP (pulledStatus b)
  let (target, s3) := pullWord s2
  s3.setPc target

/-- `nmi()` (60_exceptions.md R447). -/
def nmi (s : State) : State := enterInterrupt Config.nmiVector s

/-- `irq()` (60_exceptions.md R448). -/
def irq (s : State) : State := if flagI s.cpu.p then s else enterInterrupt Config.irqVector s

/-- `reset()` (70_reset_and_hazards.md R483). -/
def hostReset (s : State) : State :=
  let (target, s1) := rd16 s Config.resetVector
  let s2 := { s1 with cpu := { s1.cpu with
    pc := target, s := 0xFD#8, p := 0x24#8, cyc := 7, fetched := 0#8, addr := 0#16 } }
  s2.setPpu { s2.ppu with ctrl := 0#8, mask := 0#8, w := false, readBuf := 0#8 }

/-- The host sets the buttons of a controller; a port with none has nothing to set
(49_dma_controllers.md R430; log 5). -/
def setButtons (pressed : Byte) : Option Pad → Option Pad
  | none => none
  | some p => some { p with buttons := pressed }

/-- One host event (00_scope.md R11). -/
def hostEvent (s : State) : HostEvent → State
  | .reset => hostReset s
  | .irq => irq s
  | .buttons1 b => s.setPad1 (setButtons b s.pad1)
  | .buttons2 b => s.setPad2 (setButtons b s.pad2)

/-- Host events in order, each acting fully before the next (60_exceptions.md R450). -/
def hostEvents : List HostEvent → State → State
  | [], s => s
  | e :: es, s => hostEvents es (hostEvent s e)

end Sys2Proof.Machine
end

