-- ==== Sys2Proof/Machine/Operands.lean ====
section
/-! DEFINITION. The addressing modes (40_cpu_engine.md R172 to R185), the operand fetch (R186) and the
frame every instruction's meaning is built on (R170, R187).

A meaning is run on the state whose `PC` already points past the instruction: the opcode and the operand
bytes, which every mode reads first and in ascending order, are read by the fetch (Machine/Fetch.lean; log 11),
and stand in the instruction as its operand. -/

namespace Sys2Proof.Machine

/-- ZP0 (40_cpu_engine.md R176). -/
def eaZp0 (z : Byte) : Addr := zext16 z

/-- ZPX: the sum wraps inside page 0 (R177). -/
def eaZpx (s : State) (z : Byte) : Addr := zext16 (z + s.cpu.x)

/-- ZPY: the sum wraps inside page 0 (R178). -/
def eaZpy (s : State) (z : Byte) : Addr := zext16 (z + s.cpu.y)

/-- ABS (R179). -/
def eaAbs (a : Addr) : Addr := a

/-- ABX (R180). -/
def eaAbx (s : State) (a : Addr) : Addr := a + zext16 s.cpu.x

/-- ABY (R181). -/
def eaAby (s : State) (a : Addr) : Addr := a + zext16 s.cpu.y

/-- The word at `z` and `z + 1` of page 0, the pointer wrapping inside the page (R183, R184). Reads of page 0
are RAM reads and have no side effect (20_memory.md R84). -/
def zeroPageWord (s : State) (z : Byte) : Addr :=
  word16 (busPeek s (zext16 (z + 1#8))) (busPeek s (zext16 z))

/-- IZX (R183). -/
def eaIzx (s : State) (z : Byte) : Addr := zeroPageWord s (z + s.cpu.x)

/-- IZY (R184). -/
def eaIzy (s : State) (z : Byte) : Addr := zeroPageWord s z + zext16 s.cpu.y

/-- "Page boundary crossed": the sum left the page of its base (R180, R181, R184). -/
def pageCrossed (base ea : Addr) : Bool := decide (hiByte ea ≠ hiByte base)

/-- The second address of an IND pointer: the page-wrap bug (R182). -/
def indSecond (ptr : Addr) : Addr := if loByte ptr = 0xFF#8 then ptr &&& 0xFF00#16 else ptr + 1#16

/-- IND (R182): two side-effecting pointer reads, low byte first. -/
def readIndirect (s : State) (ptr : Addr) : Addr × State :=
  let lo := busPeek s ptr
  let s1 := busTouch s ptr
  let hi := busPeek s1 (indSecond ptr)
  (word16 hi lo, busTouch s1 (indSecond ptr))

/-- REL (R185): `PC` is the address of the next instruction. -/
def eaRel (s : State) (r : Byte) : Addr := s.cpu.pc + sext16 r

/-- The operand fetch `fetched <- Rd(addr)` (R186). -/
def fetchOperand (s : State) : State := (busTouch s s.cpu.addr).setFetched (busPeek s s.cpu.addr)

/-- An implied-mode instruction: `cyc <- base`, then the operation (R170, R173, R174). -/
def runImplied (base : Nat) (op : State → State) (s : State) : Result := .next (op (s.setCyc base))

/-- An immediate-mode instruction (R175): `addr` is the address of the byte after the opcode, and the operand
fetch is the read of that byte the fetch made. -/
def runImmediate (base : Nat) (d : Byte) (op : State → State) (s : State) : Result :=
  .next (op (((s.setCyc base).setAddr (s.cpu.pc - 1#16)).setFetched d))

/-- An instruction whose operation consumes the operand at `ea` (R170, R186, R187): `crossed` is what the mode
reports, `extra` what the operation reports. -/
def runOperand (base : Nat) (ea : Addr) (crossed extra : Bool) (op : State → State) (s : State) : Result :=
  .next ((op (fetchOperand ((s.setCyc base).setAddr ea))).addCyc (if crossed && extra then 1 else 0))

/-- A read instruction at `ea`: the operation reports `o = 1` (R187). -/
def runRead (base : Nat) (ea : Addr) (crossed : Bool) (op : State → State) (s : State) : Result :=
  runOperand base ea crossed true op s

/-- A read-modify-write instruction at `ea`: the operation reports `o = 0` (R187). -/
def runModify (base : Nat) (ea : Addr) (op : State → State) (s : State) : Result :=
  runOperand base ea false false op s

/-- An instruction whose operation uses only `addr` and makes no operand fetch: stores, `JSR`, `JMP`, branches
(R186; `StorePrefetch` is false, log 10). -/
def runAddress (base : Nat) (ea : Addr) (op : State → State) (s : State) : Result :=
  .next (op ((s.setCyc base).setAddr ea))

end Sys2Proof.Machine
end

