-- ==== Sys2Proof/Machine/Operate.lean ====
section
/-! DEFINITION. The operation routines of files 41 to 45, one per mnemonic (and one more for each shift in
accumulator mode). They find the operand in `fetched` (`M`) and the effective address in `addr`
(41_load_store_transfer.md R200). -/

namespace Sys2Proof.Machine

/-- `A <- v; SetZN(A)`. -/
def loadA (v : Byte) (s : State) : State := (s.setA v).setZN v
/-- `X <- v; SetZN(X)`. -/
def loadX (v : Byte) (s : State) : State := (s.setX v).setZN v
/-- `Y <- v; SetZN(Y)`. -/
def loadY (v : Byte) (s : State) : State := (s.setY v).setZN v

/-- `LDA` (R201). -/
def opLda (s : State) : State := loadA s.cpu.fetched s
/-- `LDX` (R202). -/
def opLdx (s : State) : State := loadX s.cpu.fetched s
/-- `LDY` (R203). -/
def opLdy (s : State) : State := loadY s.cpu.fetched s
/-- `STA` (R204). -/
def opSta (s : State) : State := busWrite s s.cpu.addr s.cpu.a
/-- `STX` (R205). -/
def opStx (s : State) : State := busWrite s s.cpu.addr s.cpu.x
/-- `STY` (R206). -/
def opSty (s : State) : State := busWrite s s.cpu.addr s.cpu.y
/-- `TAX` (R207). -/
def opTax (s : State) : State := loadX s.cpu.a s
/-- `TAY` (R208). -/
def opTay (s : State) : State := loadY s.cpu.a s
/-- `TXA` (R209). -/
def opTxa (s : State) : State := loadA s.cpu.x s
/-- `TYA` (R210). -/
def opTya (s : State) : State := loadA s.cpu.y s
/-- `TSX` (R211). -/
def opTsx (s : State) : State := loadX s.cpu.s s
/-- `TXS` (R212): no flag. -/
def opTxs (s : State) : State := s.setS s.cpu.x

/-- Add with carry of `m` (R221). -/
def addWithCarry (m : Byte) (s : State) : State :=
  (s.setA (sumByte s.cpu.a m (flagC s.cpu.p))).setP (adcStatus s.cpu.a m s.cpu.p)

/-- `ADC` (R221). -/
def opAdc (s : State) : State := addWithCarry s.cpu.fetched s
/-- `SBC` (R222): `ADC` of the complemented operand. -/
def opSbc (s : State) : State := addWithCarry (s.cpu.fetched ^^^ 0xFF#8) s
/-- `AND` (R223). -/
def opAnd (s : State) : State := loadA (s.cpu.a &&& s.cpu.fetched) s
/-- `ORA` (R224). -/
def opOra (s : State) : State := loadA (s.cpu.a ||| s.cpu.fetched) s
/-- `EOR` (R225). -/
def opEor (s : State) : State := loadA (s.cpu.a ^^^ s.cpu.fetched) s
/-- `CMP` (R226). -/
def opCmp (s : State) : State := s.mapP (compareStatus s.cpu.a s.cpu.fetched)
/-- `CPX` (R227). -/
def opCpx (s : State) : State := s.mapP (compareStatus s.cpu.x s.cpu.fetched)
/-- `CPY` (R228). -/
def opCpy (s : State) : State := s.mapP (compareStatus s.cpu.y s.cpu.fetched)
/-- `BIT` (R229). -/
def opBit (s : State) : State := s.mapP (bitStatus s.cpu.a s.cpu.fetched)

/-- `Wr(addr, T); SetZN(T)` (R230). -/
def storeZN (v : Byte) (s : State) : State := (busWrite s s.cpu.addr v).setZN v

/-- `INC` (R230). -/
def opInc (s : State) : State := storeZN (s.cpu.fetched + 1#8) s
/-- `DEC` (R231). -/
def opDec (s : State) : State := storeZN (s.cpu.fetched - 1#8) s
/-- `INX` (R232). -/
def opInx (s : State) : State := loadX (s.cpu.x + 1#8) s
/-- `INY` (R233). -/
def opIny (s : State) : State := loadY (s.cpu.y + 1#8) s
/-- `DEX` (R234). -/
def opDex (s : State) : State := loadX (s.cpu.x - 1#8) s
/-- `DEY` (R235). -/
def opDey (s : State) : State := loadY (s.cpu.y - 1#8) s

/-- A shift of `A` (43_shift_rotate.md R250): carry, write-back to `A`, `Z` and `N`. -/
def shiftAcc (f : Byte → Bool → Bool × Byte) (s : State) : State :=
  let r := f s.cpu.a (flagC s.cpu.p)
  (s.setA r.2).mapP (shiftStatus r)

/-- A shift of memory (43_shift_rotate.md R250): carry, one write to `addr`, `Z` and `N`. -/
def shiftMem (f : Byte → Bool → Bool × Byte) (s : State) : State :=
  let r := f s.cpu.fetched (flagC s.cpu.p)
  (busWrite s s.cpu.addr r.2).mapP (shiftStatus r)

/-- `ASL A` (R251). -/
def opAslAcc (s : State) : State := shiftAcc shiftAsl s
/-- `LSR A` (R252). -/
def opLsrAcc (s : State) : State := shiftAcc shiftLsr s
/-- `ROL A` (R253). -/
def opRolAcc (s : State) : State := shiftAcc shiftRol s
/-- `ROR A` (R254). -/
def opRorAcc (s : State) : State := shiftAcc shiftRor s
/-- `ASL` of memory (R251). -/
def opAsl (s : State) : State := shiftMem shiftAsl s
/-- `LSR` of memory (R252). -/
def opLsr (s : State) : State := shiftMem shiftLsr s
/-- `ROL` of memory (R253). -/
def opRol (s : State) : State := shiftMem shiftRol s
/-- `ROR` of memory (R254). -/
def opRor (s : State) : State := shiftMem shiftRor s

/-- `JMP` (44_control_flow.md R261). -/
def opJmp (s : State) : State := s.setPc s.cpu.addr
/-- `JSR` (R262): pushes the address of its own last byte. -/
def opJsr (s : State) : State := (pushWord (s.cpu.pc - 1#16) s).setPc s.cpu.addr
/-- `RTS` (R263). -/
def opRts (s : State) : State :=
  let (target, s1) := pullWord s
  s1.setPc (target + 1#16)
/-- `RTI` (R264). -/
def opRti (s : State) : State := returnFromException s
/-- `BRK` (R266): skips a byte, then takes the exception with `B = 1` in the pushed status. -/
def opBrk (s : State) : State :=
  takeException Config.irqVector true (s.setPc (s.cpu.pc + 1#16))
/-- The branch operation (R265). -/
def opBranch (cond : Bool) (s : State) : State :=
  if cond then
    (s.addCyc (if hiByte s.cpu.addr ≠ hiByte s.cpu.pc then 2 else 1)).setPc s.cpu.addr
  else s

/-- `PHA` (45_stack_flags_nop.md R281). -/
def opPha (s : State) : State := push s.cpu.a s
/-- `PLA` (R282). -/
def opPla (s : State) : State :=
  let (b, s1) := pull s
  loadA b s1
/-- `PHP` (R284). -/
def opPhp (s : State) : State := push (pushedByProgram s.cpu.p) s
/-- `PLP` (R283). -/
def opPlp (s : State) : State :=
  let (b, s1) := pull s
  s1.setP (pulledStatus b)
/-- `CLC` (R285). -/
def opClc (s : State) : State := s.mapP (putC false)
/-- `SEC` (R286). -/
def opSec (s : State) : State := s.mapP (putC true)
/-- `CLI` (R287). -/
def opCli (s : State) : State := s.mapP (putI false)
/-- `SEI` (R288). -/
def opSei (s : State) : State := s.mapP (putI true)
/-- `CLV` (R289). -/
def opClv (s : State) : State := s.mapP (putV false)
/-- `CLD` (R290). -/
def opCld (s : State) : State := s.mapP (putD false)
/-- `SED` (R291). -/
def opSed (s : State) : State := s.mapP (putD true)
/-- `NOP` (R295). -/
def opNop (s : State) : State := s

end Sys2Proof.Machine
end

