-- ==== Sys2Proof/Syntax.lean ====
section
/-! DEFINITION. The instructions: one constructor for each of the 151 rows of the opcode table
(30_encoding.md R145), named by mnemonic and addressing mode, with the operand its mode carries (R141, R143). -/

namespace Sys2Proof

/-- An instruction. Operands: `d` immediate datum, `z` zero-page address, `a` 16-bit address or pointer, `r`
relative offset. -/
inductive Instr where
  /-- `LDA` (indirect,X), $A1 (R201, R183). -/
  | ldaIzx (z : Byte)
  /-- `LDA` zero-page, $A5 (R201, R176). -/
  | ldaZp0 (z : Byte)
  /-- `LDA` immediate, $A9 (R201, R175). -/
  | ldaImm (d : Byte)
  /-- `LDA` absolute, $AD (R201, R179). -/
  | ldaAbs (a : Addr)
  /-- `LDA` (indirect),Y, $B1 (R201, R184). -/
  | ldaIzy (z : Byte)
  /-- `LDA` zero-page,X, $B5 (R201, R177). -/
  | ldaZpx (z : Byte)
  /-- `LDA` absolute,Y, $B9 (R201, R181). -/
  | ldaAby (a : Addr)
  /-- `LDA` absolute,X, $BD (R201, R180). -/
  | ldaAbx (a : Addr)
  /-- `LDX` immediate, $A2 (R202, R175). -/
  | ldxImm (d : Byte)
  /-- `LDX` zero-page, $A6 (R202, R176). -/
  | ldxZp0 (z : Byte)
  /-- `LDX` absolute, $AE (R202, R179). -/
  | ldxAbs (a : Addr)
  /-- `LDX` zero-page,Y, $B6 (R202, R178). -/
  | ldxZpy (z : Byte)
  /-- `LDX` absolute,Y, $BE (R202, R181). -/
  | ldxAby (a : Addr)
  /-- `LDY` immediate, $A0 (R203, R175). -/
  | ldyImm (d : Byte)
  /-- `LDY` zero-page, $A4 (R203, R176). -/
  | ldyZp0 (z : Byte)
  /-- `LDY` absolute, $AC (R203, R179). -/
  | ldyAbs (a : Addr)
  /-- `LDY` zero-page,X, $B4 (R203, R177). -/
  | ldyZpx (z : Byte)
  /-- `LDY` absolute,X, $BC (R203, R180). -/
  | ldyAbx (a : Addr)
  /-- `STA` (indirect,X), $81 (R204, R183). -/
  | staIzx (z : Byte)
  /-- `STA` zero-page, $85 (R204, R176). -/
  | staZp0 (z : Byte)
  /-- `STA` absolute, $8D (R204, R179). -/
  | staAbs (a : Addr)
  /-- `STA` (indirect),Y, $91 (R204, R184). -/
  | staIzy (z : Byte)
  /-- `STA` zero-page,X, $95 (R204, R177). -/
  | staZpx (z : Byte)
  /-- `STA` absolute,Y, $99 (R204, R181). -/
  | staAby (a : Addr)
  /-- `STA` absolute,X, $9D (R204, R180). -/
  | staAbx (a : Addr)
  /-- `STX` zero-page, $86 (R205, R176). -/
  | stxZp0 (z : Byte)
  /-- `STX` absolute, $8E (R205, R179). -/
  | stxAbs (a : Addr)
  /-- `STX` zero-page,Y, $96 (R205, R178). -/
  | stxZpy (z : Byte)
  /-- `STY` zero-page, $84 (R206, R176). -/
  | styZp0 (z : Byte)
  /-- `STY` absolute, $8C (R206, R179). -/
  | styAbs (a : Addr)
  /-- `STY` zero-page,X, $94 (R206, R177). -/
  | styZpx (z : Byte)
  /-- `TAX` implied, $AA (R207, R173). -/
  | tax
  /-- `TAY` implied, $A8 (R208, R173). -/
  | tay
  /-- `TXA` implied, $8A (R209, R173). -/
  | txa
  /-- `TYA` implied, $98 (R210, R173). -/
  | tya
  /-- `TSX` implied, $BA (R211, R173). -/
  | tsx
  /-- `TXS` implied, $9A (R212, R173). -/
  | txs
  /-- `ADC` (indirect,X), $61 (R221, R183). -/
  | adcIzx (z : Byte)
  /-- `ADC` zero-page, $65 (R221, R176). -/
  | adcZp0 (z : Byte)
  /-- `ADC` immediate, $69 (R221, R175). -/
  | adcImm (d : Byte)
  /-- `ADC` absolute, $6D (R221, R179). -/
  | adcAbs (a : Addr)
  /-- `ADC` (indirect),Y, $71 (R221, R184). -/
  | adcIzy (z : Byte)
  /-- `ADC` zero-page,X, $75 (R221, R177). -/
  | adcZpx (z : Byte)
  /-- `ADC` absolute,Y, $79 (R221, R181). -/
  | adcAby (a : Addr)
  /-- `ADC` absolute,X, $7D (R221, R180). -/
  | adcAbx (a : Addr)
  /-- `SBC` (indirect,X), $E1 (R222, R183). -/
  | sbcIzx (z : Byte)
  /-- `SBC` zero-page, $E5 (R222, R176). -/
  | sbcZp0 (z : Byte)
  /-- `SBC` immediate, $E9 (R222, R175). -/
  | sbcImm (d : Byte)
  /-- `SBC` absolute, $ED (R222, R179). -/
  | sbcAbs (a : Addr)
  /-- `SBC` (indirect),Y, $F1 (R222, R184). -/
  | sbcIzy (z : Byte)
  /-- `SBC` zero-page,X, $F5 (R222, R177). -/
  | sbcZpx (z : Byte)
  /-- `SBC` absolute,Y, $F9 (R222, R181). -/
  | sbcAby (a : Addr)
  /-- `SBC` absolute,X, $FD (R222, R180). -/
  | sbcAbx (a : Addr)
  /-- `AND` (indirect,X), $21 (R223, R183). -/
  | andIzx (z : Byte)
  /-- `AND` zero-page, $25 (R223, R176). -/
  | andZp0 (z : Byte)
  /-- `AND` immediate, $29 (R223, R175). -/
  | andImm (d : Byte)
  /-- `AND` absolute, $2D (R223, R179). -/
  | andAbs (a : Addr)
  /-- `AND` (indirect),Y, $31 (R223, R184). -/
  | andIzy (z : Byte)
  /-- `AND` zero-page,X, $35 (R223, R177). -/
  | andZpx (z : Byte)
  /-- `AND` absolute,Y, $39 (R223, R181). -/
  | andAby (a : Addr)
  /-- `AND` absolute,X, $3D (R223, R180). -/
  | andAbx (a : Addr)
  /-- `ORA` (indirect,X), $01 (R224, R183). -/
  | oraIzx (z : Byte)
  /-- `ORA` zero-page, $05 (R224, R176). -/
  | oraZp0 (z : Byte)
  /-- `ORA` immediate, $09 (R224, R175). -/
  | oraImm (d : Byte)
  /-- `ORA` absolute, $0D (R224, R179). -/
  | oraAbs (a : Addr)
  /-- `ORA` (indirect),Y, $11 (R224, R184). -/
  | oraIzy (z : Byte)
  /-- `ORA` zero-page,X, $15 (R224, R177). -/
  | oraZpx (z : Byte)
  /-- `ORA` absolute,Y, $19 (R224, R181). -/
  | oraAby (a : Addr)
  /-- `ORA` absolute,X, $1D (R224, R180). -/
  | oraAbx (a : Addr)
  /-- `EOR` (indirect,X), $41 (R225, R183). -/
  | eorIzx (z : Byte)
  /-- `EOR` zero-page, $45 (R225, R176). -/
  | eorZp0 (z : Byte)
  /-- `EOR` immediate, $49 (R225, R175). -/
  | eorImm (d : Byte)
  /-- `EOR` absolute, $4D (R225, R179). -/
  | eorAbs (a : Addr)
  /-- `EOR` (indirect),Y, $51 (R225, R184). -/
  | eorIzy (z : Byte)
  /-- `EOR` zero-page,X, $55 (R225, R177). -/
  | eorZpx (z : Byte)
  /-- `EOR` absolute,Y, $59 (R225, R181). -/
  | eorAby (a : Addr)
  /-- `EOR` absolute,X, $5D (R225, R180). -/
  | eorAbx (a : Addr)
  /-- `CMP` (indirect,X), $C1 (R226, R183). -/
  | cmpIzx (z : Byte)
  /-- `CMP` zero-page, $C5 (R226, R176). -/
  | cmpZp0 (z : Byte)
  /-- `CMP` immediate, $C9 (R226, R175). -/
  | cmpImm (d : Byte)
  /-- `CMP` absolute, $CD (R226, R179). -/
  | cmpAbs (a : Addr)
  /-- `CMP` (indirect),Y, $D1 (R226, R184). -/
  | cmpIzy (z : Byte)
  /-- `CMP` zero-page,X, $D5 (R226, R177). -/
  | cmpZpx (z : Byte)
  /-- `CMP` absolute,Y, $D9 (R226, R181). -/
  | cmpAby (a : Addr)
  /-- `CMP` absolute,X, $DD (R226, R180). -/
  | cmpAbx (a : Addr)
  /-- `CPX` immediate, $E0 (R227, R175). -/
  | cpxImm (d : Byte)
  /-- `CPX` zero-page, $E4 (R227, R176). -/
  | cpxZp0 (z : Byte)
  /-- `CPX` absolute, $EC (R227, R179). -/
  | cpxAbs (a : Addr)
  /-- `CPY` immediate, $C0 (R228, R175). -/
  | cpyImm (d : Byte)
  /-- `CPY` zero-page, $C4 (R228, R176). -/
  | cpyZp0 (z : Byte)
  /-- `CPY` absolute, $CC (R228, R179). -/
  | cpyAbs (a : Addr)
  /-- `BIT` zero-page, $24 (R229, R176). -/
  | bitZp0 (z : Byte)
  /-- `BIT` absolute, $2C (R229, R179). -/
  | bitAbs (a : Addr)
  /-- `INC` zero-page, $E6 (R230, R176). -/
  | incZp0 (z : Byte)
  /-- `INC` absolute, $EE (R230, R179). -/
  | incAbs (a : Addr)
  /-- `INC` zero-page,X, $F6 (R230, R177). -/
  | incZpx (z : Byte)
  /-- `INC` absolute,X, $FE (R230, R180). -/
  | incAbx (a : Addr)
  /-- `DEC` zero-page, $C6 (R231, R176). -/
  | decZp0 (z : Byte)
  /-- `DEC` absolute, $CE (R231, R179). -/
  | decAbs (a : Addr)
  /-- `DEC` zero-page,X, $D6 (R231, R177). -/
  | decZpx (z : Byte)
  /-- `DEC` absolute,X, $DE (R231, R180). -/
  | decAbx (a : Addr)
  /-- `INX` implied, $E8 (R232, R173). -/
  | inx
  /-- `INY` implied, $C8 (R233, R173). -/
  | iny
  /-- `DEX` implied, $CA (R234, R173). -/
  | dex
  /-- `DEY` implied, $88 (R235, R173). -/
  | dey
  /-- `ASL` zero-page, $06 (R251, R176). -/
  | aslZp0 (z : Byte)
  /-- `ASL` accumulator, $0A (R251, R174). -/
  | aslAcc
  /-- `ASL` absolute, $0E (R251, R179). -/
  | aslAbs (a : Addr)
  /-- `ASL` zero-page,X, $16 (R251, R177). -/
  | aslZpx (z : Byte)
  /-- `ASL` absolute,X, $1E (R251, R180). -/
  | aslAbx (a : Addr)
  /-- `LSR` zero-page, $46 (R252, R176). -/
  | lsrZp0 (z : Byte)
  /-- `LSR` accumulator, $4A (R252, R174). -/
  | lsrAcc
  /-- `LSR` absolute, $4E (R252, R179). -/
  | lsrAbs (a : Addr)
  /-- `LSR` zero-page,X, $56 (R252, R177). -/
  | lsrZpx (z : Byte)
  /-- `LSR` absolute,X, $5E (R252, R180). -/
  | lsrAbx (a : Addr)
  /-- `ROL` zero-page, $26 (R253, R176). -/
  | rolZp0 (z : Byte)
  /-- `ROL` accumulator, $2A (R253, R174). -/
  | rolAcc
  /-- `ROL` absolute, $2E (R253, R179). -/
  | rolAbs (a : Addr)
  /-- `ROL` zero-page,X, $36 (R253, R177). -/
  | rolZpx (z : Byte)
  /-- `ROL` absolute,X, $3E (R253, R180). -/
  | rolAbx (a : Addr)
  /-- `ROR` zero-page, $66 (R254, R176). -/
  | rorZp0 (z : Byte)
  /-- `ROR` accumulator, $6A (R254, R174). -/
  | rorAcc
  /-- `ROR` absolute, $6E (R254, R179). -/
  | rorAbs (a : Addr)
  /-- `ROR` zero-page,X, $76 (R254, R177). -/
  | rorZpx (z : Byte)
  /-- `ROR` absolute,X, $7E (R254, R180). -/
  | rorAbx (a : Addr)
  /-- `JMP` absolute, $4C (R261, R179). -/
  | jmpAbs (a : Addr)
  /-- `JMP` indirect, $6C (R261, R182). -/
  | jmpInd (a : Addr)
  /-- `JSR` absolute, $20 (R262, R179). -/
  | jsr (a : Addr)
  /-- `RTS` implied, $60 (R263, R173). -/
  | rts
  /-- `RTI` implied, $40 (R264, R173). -/
  | rti
  /-- `BRK` implied, $00 (R266, R173). -/
  | brk
  /-- `BCC` relative, $90 (R267, R185). -/
  | bcc (r : Byte)
  /-- `BCS` relative, $B0 (R268, R185). -/
  | bcs (r : Byte)
  /-- `BEQ` relative, $F0 (R269, R185). -/
  | beq (r : Byte)
  /-- `BNE` relative, $D0 (R270, R185). -/
  | bne (r : Byte)
  /-- `BMI` relative, $30 (R271, R185). -/
  | bmi (r : Byte)
  /-- `BPL` relative, $10 (R272, R185). -/
  | bpl (r : Byte)
  /-- `BVC` relative, $50 (R273, R185). -/
  | bvc (r : Byte)
  /-- `BVS` relative, $70 (R274, R185). -/
  | bvs (r : Byte)
  /-- `PHA` implied, $48 (R281, R173). -/
  | pha
  /-- `PLA` implied, $68 (R282, R173). -/
  | pla
  /-- `PHP` implied, $08 (R284, R173). -/
  | php
  /-- `PLP` implied, $28 (R283, R173). -/
  | plp
  /-- `CLC` implied, $18 (R285, R173). -/
  | clc
  /-- `SEC` implied, $38 (R286, R173). -/
  | sec
  /-- `CLI` implied, $58 (R287, R173). -/
  | cli
  /-- `SEI` implied, $78 (R288, R173). -/
  | sei
  /-- `CLV` implied, $B8 (R289, R173). -/
  | clv
  /-- `CLD` implied, $D8 (R290, R173). -/
  | cld
  /-- `SED` implied, $F8 (R291, R173). -/
  | sed
  /-- `NOP` implied, $EA (R295, R173). -/
  | nop
  deriving DecidableEq, Repr

end Sys2Proof
end

