-- ==== Sys2Proof/Machine/Arith.lean ====
section
/-! DEFINITION. The meanings of the instructions of 42_arith_logic.md, one definition for each row of the opcode table: its
base cycles (30_encoding.md R145), its addressing mode and its operation. -/

namespace Sys2Proof.Machine

/-- `ADC` (indirect,X), $61 (R221, R183). -/
def execAdcIzx (z : Byte) (s : State) : Result := runRead 6 (eaIzx s z) false opAdc s

/-- `ADC` zero-page, $65 (R221, R176). -/
def execAdcZp0 (z : Byte) (s : State) : Result := runRead 3 (eaZp0 z) false opAdc s

/-- `ADC` immediate, $69 (R221, R175). -/
def execAdcImm (d : Byte) (s : State) : Result := runImmediate 2 d opAdc s

/-- `ADC` absolute, $6D (R221, R179). -/
def execAdcAbs (a : Addr) (s : State) : Result := runRead 4 (eaAbs a) false opAdc s

/-- `ADC` (indirect),Y, $71 (R221, R184). -/
def execAdcIzy (z : Byte) (s : State) : Result :=
  runRead 5 (eaIzy s z) (pageCrossed (zeroPageWord s z) (eaIzy s z)) opAdc s

/-- `ADC` zero-page,X, $75 (R221, R177). -/
def execAdcZpx (z : Byte) (s : State) : Result := runRead 4 (eaZpx s z) false opAdc s

/-- `ADC` absolute,Y, $79 (R221, R181). -/
def execAdcAby (a : Addr) (s : State) : Result := runRead 4 (eaAby s a) (pageCrossed a (eaAby s a)) opAdc s

/-- `ADC` absolute,X, $7D (R221, R180). -/
def execAdcAbx (a : Addr) (s : State) : Result := runRead 4 (eaAbx s a) (pageCrossed a (eaAbx s a)) opAdc s

/-- `SBC` (indirect,X), $E1 (R222, R183). -/
def execSbcIzx (z : Byte) (s : State) : Result := runRead 6 (eaIzx s z) false opSbc s

/-- `SBC` zero-page, $E5 (R222, R176). -/
def execSbcZp0 (z : Byte) (s : State) : Result := runRead 3 (eaZp0 z) false opSbc s

/-- `SBC` immediate, $E9 (R222, R175). -/
def execSbcImm (d : Byte) (s : State) : Result := runImmediate 2 d opSbc s

/-- `SBC` absolute, $ED (R222, R179). -/
def execSbcAbs (a : Addr) (s : State) : Result := runRead 4 (eaAbs a) false opSbc s

/-- `SBC` (indirect),Y, $F1 (R222, R184). -/
def execSbcIzy (z : Byte) (s : State) : Result :=
  runRead 5 (eaIzy s z) (pageCrossed (zeroPageWord s z) (eaIzy s z)) opSbc s

/-- `SBC` zero-page,X, $F5 (R222, R177). -/
def execSbcZpx (z : Byte) (s : State) : Result := runRead 4 (eaZpx s z) false opSbc s

/-- `SBC` absolute,Y, $F9 (R222, R181). -/
def execSbcAby (a : Addr) (s : State) : Result := runRead 4 (eaAby s a) (pageCrossed a (eaAby s a)) opSbc s

/-- `SBC` absolute,X, $FD (R222, R180). -/
def execSbcAbx (a : Addr) (s : State) : Result := runRead 4 (eaAbx s a) (pageCrossed a (eaAbx s a)) opSbc s

/-- `AND` (indirect,X), $21 (R223, R183). -/
def execAndIzx (z : Byte) (s : State) : Result := runRead 6 (eaIzx s z) false opAnd s

/-- `AND` zero-page, $25 (R223, R176). -/
def execAndZp0 (z : Byte) (s : State) : Result := runRead 3 (eaZp0 z) false opAnd s

/-- `AND` immediate, $29 (R223, R175). -/
def execAndImm (d : Byte) (s : State) : Result := runImmediate 2 d opAnd s

/-- `AND` absolute, $2D (R223, R179). -/
def execAndAbs (a : Addr) (s : State) : Result := runRead 4 (eaAbs a) false opAnd s

/-- `AND` (indirect),Y, $31 (R223, R184). -/
def execAndIzy (z : Byte) (s : State) : Result :=
  runRead 5 (eaIzy s z) (pageCrossed (zeroPageWord s z) (eaIzy s z)) opAnd s

/-- `AND` zero-page,X, $35 (R223, R177). -/
def execAndZpx (z : Byte) (s : State) : Result := runRead 4 (eaZpx s z) false opAnd s

/-- `AND` absolute,Y, $39 (R223, R181). -/
def execAndAby (a : Addr) (s : State) : Result := runRead 4 (eaAby s a) (pageCrossed a (eaAby s a)) opAnd s

/-- `AND` absolute,X, $3D (R223, R180). -/
def execAndAbx (a : Addr) (s : State) : Result := runRead 4 (eaAbx s a) (pageCrossed a (eaAbx s a)) opAnd s

/-- `ORA` (indirect,X), $01 (R224, R183). -/
def execOraIzx (z : Byte) (s : State) : Result := runRead 6 (eaIzx s z) false opOra s

/-- `ORA` zero-page, $05 (R224, R176). -/
def execOraZp0 (z : Byte) (s : State) : Result := runRead 3 (eaZp0 z) false opOra s

/-- `ORA` immediate, $09 (R224, R175). -/
def execOraImm (d : Byte) (s : State) : Result := runImmediate 2 d opOra s

/-- `ORA` absolute, $0D (R224, R179). -/
def execOraAbs (a : Addr) (s : State) : Result := runRead 4 (eaAbs a) false opOra s

/-- `ORA` (indirect),Y, $11 (R224, R184). -/
def execOraIzy (z : Byte) (s : State) : Result :=
  runRead 5 (eaIzy s z) (pageCrossed (zeroPageWord s z) (eaIzy s z)) opOra s

/-- `ORA` zero-page,X, $15 (R224, R177). -/
def execOraZpx (z : Byte) (s : State) : Result := runRead 4 (eaZpx s z) false opOra s

/-- `ORA` absolute,Y, $19 (R224, R181). -/
def execOraAby (a : Addr) (s : State) : Result := runRead 4 (eaAby s a) (pageCrossed a (eaAby s a)) opOra s

/-- `ORA` absolute,X, $1D (R224, R180). -/
def execOraAbx (a : Addr) (s : State) : Result := runRead 4 (eaAbx s a) (pageCrossed a (eaAbx s a)) opOra s

/-- `EOR` (indirect,X), $41 (R225, R183). -/
def execEorIzx (z : Byte) (s : State) : Result := runRead 6 (eaIzx s z) false opEor s

/-- `EOR` zero-page, $45 (R225, R176). -/
def execEorZp0 (z : Byte) (s : State) : Result := runRead 3 (eaZp0 z) false opEor s

/-- `EOR` immediate, $49 (R225, R175). -/
def execEorImm (d : Byte) (s : State) : Result := runImmediate 2 d opEor s

/-- `EOR` absolute, $4D (R225, R179). -/
def execEorAbs (a : Addr) (s : State) : Result := runRead 4 (eaAbs a) false opEor s

/-- `EOR` (indirect),Y, $51 (R225, R184). -/
def execEorIzy (z : Byte) (s : State) : Result :=
  runRead 5 (eaIzy s z) (pageCrossed (zeroPageWord s z) (eaIzy s z)) opEor s

/-- `EOR` zero-page,X, $55 (R225, R177). -/
def execEorZpx (z : Byte) (s : State) : Result := runRead 4 (eaZpx s z) false opEor s

/-- `EOR` absolute,Y, $59 (R225, R181). -/
def execEorAby (a : Addr) (s : State) : Result := runRead 4 (eaAby s a) (pageCrossed a (eaAby s a)) opEor s

/-- `EOR` absolute,X, $5D (R225, R180). -/
def execEorAbx (a : Addr) (s : State) : Result := runRead 4 (eaAbx s a) (pageCrossed a (eaAbx s a)) opEor s

/-- `CMP` (indirect,X), $C1 (R226, R183). -/
def execCmpIzx (z : Byte) (s : State) : Result := runRead 6 (eaIzx s z) false opCmp s

/-- `CMP` zero-page, $C5 (R226, R176). -/
def execCmpZp0 (z : Byte) (s : State) : Result := runRead 3 (eaZp0 z) false opCmp s

/-- `CMP` immediate, $C9 (R226, R175). -/
def execCmpImm (d : Byte) (s : State) : Result := runImmediate 2 d opCmp s

/-- `CMP` absolute, $CD (R226, R179). -/
def execCmpAbs (a : Addr) (s : State) : Result := runRead 4 (eaAbs a) false opCmp s

/-- `CMP` (indirect),Y, $D1 (R226, R184). -/
def execCmpIzy (z : Byte) (s : State) : Result :=
  runRead 5 (eaIzy s z) (pageCrossed (zeroPageWord s z) (eaIzy s z)) opCmp s

/-- `CMP` zero-page,X, $D5 (R226, R177). -/
def execCmpZpx (z : Byte) (s : State) : Result := runRead 4 (eaZpx s z) false opCmp s

/-- `CMP` absolute,Y, $D9 (R226, R181). -/
def execCmpAby (a : Addr) (s : State) : Result := runRead 4 (eaAby s a) (pageCrossed a (eaAby s a)) opCmp s

/-- `CMP` absolute,X, $DD (R226, R180). -/
def execCmpAbx (a : Addr) (s : State) : Result := runRead 4 (eaAbx s a) (pageCrossed a (eaAbx s a)) opCmp s

/-- `CPX` immediate, $E0 (R227, R175). -/
def execCpxImm (d : Byte) (s : State) : Result := runImmediate 2 d opCpx s

/-- `CPX` zero-page, $E4 (R227, R176). -/
def execCpxZp0 (z : Byte) (s : State) : Result := runRead 3 (eaZp0 z) false opCpx s

/-- `CPX` absolute, $EC (R227, R179). -/
def execCpxAbs (a : Addr) (s : State) : Result := runRead 4 (eaAbs a) false opCpx s

/-- `CPY` immediate, $C0 (R228, R175). -/
def execCpyImm (d : Byte) (s : State) : Result := runImmediate 2 d opCpy s

/-- `CPY` zero-page, $C4 (R228, R176). -/
def execCpyZp0 (z : Byte) (s : State) : Result := runRead 3 (eaZp0 z) false opCpy s

/-- `CPY` absolute, $CC (R228, R179). -/
def execCpyAbs (a : Addr) (s : State) : Result := runRead 4 (eaAbs a) false opCpy s

/-- `BIT` zero-page, $24 (R229, R176). -/
def execBitZp0 (z : Byte) (s : State) : Result := runRead 3 (eaZp0 z) false opBit s

/-- `BIT` absolute, $2C (R229, R179). -/
def execBitAbs (a : Addr) (s : State) : Result := runRead 4 (eaAbs a) false opBit s

/-- `INC` zero-page, $E6 (R230, R176). -/
def execIncZp0 (z : Byte) (s : State) : Result := runModify 5 (eaZp0 z) opInc s

/-- `INC` absolute, $EE (R230, R179). -/
def execIncAbs (a : Addr) (s : State) : Result := runModify 6 (eaAbs a) opInc s

/-- `INC` zero-page,X, $F6 (R230, R177). -/
def execIncZpx (z : Byte) (s : State) : Result := runModify 6 (eaZpx s z) opInc s

/-- `INC` absolute,X, $FE (R230, R180). -/
def execIncAbx (a : Addr) (s : State) : Result := runModify 7 (eaAbx s a) opInc s

/-- `DEC` zero-page, $C6 (R231, R176). -/
def execDecZp0 (z : Byte) (s : State) : Result := runModify 5 (eaZp0 z) opDec s

/-- `DEC` absolute, $CE (R231, R179). -/
def execDecAbs (a : Addr) (s : State) : Result := runModify 6 (eaAbs a) opDec s

/-- `DEC` zero-page,X, $D6 (R231, R177). -/
def execDecZpx (z : Byte) (s : State) : Result := runModify 6 (eaZpx s z) opDec s

/-- `DEC` absolute,X, $DE (R231, R180). -/
def execDecAbx (a : Addr) (s : State) : Result := runModify 7 (eaAbx s a) opDec s

/-- `INX` implied, $E8 (R232, R173). -/
def execInx (s : State) : Result := runImplied 2 opInx s

/-- `INY` implied, $C8 (R233, R173). -/
def execIny (s : State) : Result := runImplied 2 opIny s

/-- `DEX` implied, $CA (R234, R173). -/
def execDex (s : State) : Result := runImplied 2 opDex s

/-- `DEY` implied, $88 (R235, R173). -/
def execDey (s : State) : Result := runImplied 2 opDey s

end Sys2Proof.Machine
end

