-- ==== Sys2Proof/Machine/Control.lean ====
section
/-! DEFINITION. The meanings of the instructions of 44_control_flow.md, one definition for each row of the opcode table: its
base cycles (30_encoding.md R145), its addressing mode and its operation. -/

namespace Sys2Proof.Machine

/-- `JMP` absolute, $4C (R261, R179). -/
def execJmpAbs (a : Addr) (s : State) : Result := runAddress 3 (eaAbs a) opJmp s

/-- `JMP` indirect, $6C (R261, R182). -/
def execJmpInd (a : Addr) (s : State) : Result :=
  runAddress 5 (readIndirect s a).1 opJmp (readIndirect s a).2

/-- `JSR` absolute, $20 (R262, R179). -/
def execJsr (a : Addr) (s : State) : Result := runAddress 6 (eaAbs a) opJsr s

/-- `RTS` implied, $60 (R263, R173). -/
def execRts (s : State) : Result := runImplied 6 opRts s

/-- `RTI` implied, $40 (R264, R173). -/
def execRti (s : State) : Result := runImplied 6 opRti s

/-- `BRK` implied, $00 (R266, R173). -/
def execBrk (s : State) : Result := runImplied 7 opBrk s

/-- `BCC` relative, $90 (R267, R185). -/
def execBcc (r : Byte) (s : State) : Result := runAddress 2 (eaRel s r) (opBranch (!flagC s.cpu.p)) s

/-- `BCS` relative, $B0 (R268, R185). -/
def execBcs (r : Byte) (s : State) : Result := runAddress 2 (eaRel s r) (opBranch (flagC s.cpu.p)) s

/-- `BEQ` relative, $F0 (R269, R185). -/
def execBeq (r : Byte) (s : State) : Result := runAddress 2 (eaRel s r) (opBranch (flagZ s.cpu.p)) s

/-- `BNE` relative, $D0 (R270, R185). -/
def execBne (r : Byte) (s : State) : Result := runAddress 2 (eaRel s r) (opBranch (!flagZ s.cpu.p)) s

/-- `BMI` relative, $30 (R271, R185). -/
def execBmi (r : Byte) (s : State) : Result := runAddress 2 (eaRel s r) (opBranch (flagN s.cpu.p)) s

/-- `BPL` relative, $10 (R272, R185). -/
def execBpl (r : Byte) (s : State) : Result := runAddress 2 (eaRel s r) (opBranch (!flagN s.cpu.p)) s

/-- `BVC` relative, $50 (R273, R185). -/
def execBvc (r : Byte) (s : State) : Result := runAddress 2 (eaRel s r) (opBranch (!flagV s.cpu.p)) s

/-- `BVS` relative, $70 (R274, R185). -/
def execBvs (r : Byte) (s : State) : Result := runAddress 2 (eaRel s r) (opBranch (flagV s.cpu.p)) s

end Sys2Proof.Machine
end

