-- ==== Sys2Proof/Machine/LoadStore.lean ====
section
/-! DEFINITION. The meanings of the instructions of 41_load_store_transfer.md, one definition for each row of the opcode table: its
base cycles (30_encoding.md R145), its addressing mode and its operation. -/

namespace Sys2Proof.Machine

/-- `LDA` (indirect,X), $A1 (R201, R183). -/
def execLdaIzx (z : Byte) (s : State) : Result := runRead 6 (eaIzx s z) false opLda s

/-- `LDA` zero-page, $A5 (R201, R176). -/
def execLdaZp0 (z : Byte) (s : State) : Result := runRead 3 (eaZp0 z) false opLda s

/-- `LDA` immediate, $A9 (R201, R175). -/
def execLdaImm (d : Byte) (s : State) : Result := runImmediate 2 d opLda s

/-- `LDA` absolute, $AD (R201, R179). -/
def execLdaAbs (a : Addr) (s : State) : Result := runRead 4 (eaAbs a) false opLda s

/-- `LDA` (indirect),Y, $B1 (R201, R184). -/
def execLdaIzy (z : Byte) (s : State) : Result :=
  runRead 5 (eaIzy s z) (pageCrossed (zeroPageWord s z) (eaIzy s z)) opLda s

/-- `LDA` zero-page,X, $B5 (R201, R177). -/
def execLdaZpx (z : Byte) (s : State) : Result := runRead 4 (eaZpx s z) false opLda s

/-- `LDA` absolute,Y, $B9 (R201, R181). -/
def execLdaAby (a : Addr) (s : State) : Result := runRead 4 (eaAby s a) (pageCrossed a (eaAby s a)) opLda s

/-- `LDA` absolute,X, $BD (R201, R180). -/
def execLdaAbx (a : Addr) (s : State) : Result := runRead 4 (eaAbx s a) (pageCrossed a (eaAbx s a)) opLda s

/-- `LDX` immediate, $A2 (R202, R175). -/
def execLdxImm (d : Byte) (s : State) : Result := runImmediate 2 d opLdx s

/-- `LDX` zero-page, $A6 (R202, R176). -/
def execLdxZp0 (z : Byte) (s : State) : Result := runRead 3 (eaZp0 z) false opLdx s

/-- `LDX` absolute, $AE (R202, R179). -/
def execLdxAbs (a : Addr) (s : State) : Result := runRead 4 (eaAbs a) false opLdx s

/-- `LDX` zero-page,Y, $B6 (R202, R178). -/
def execLdxZpy (z : Byte) (s : State) : Result := runRead 4 (eaZpy s z) false opLdx s

/-- `LDX` absolute,Y, $BE (R202, R181). -/
def execLdxAby (a : Addr) (s : State) : Result := runRead 4 (eaAby s a) (pageCrossed a (eaAby s a)) opLdx s

/-- `LDY` immediate, $A0 (R203, R175). -/
def execLdyImm (d : Byte) (s : State) : Result := runImmediate 2 d opLdy s

/-- `LDY` zero-page, $A4 (R203, R176). -/
def execLdyZp0 (z : Byte) (s : State) : Result := runRead 3 (eaZp0 z) false opLdy s

/-- `LDY` absolute, $AC (R203, R179). -/
def execLdyAbs (a : Addr) (s : State) : Result := runRead 4 (eaAbs a) false opLdy s

/-- `LDY` zero-page,X, $B4 (R203, R177). -/
def execLdyZpx (z : Byte) (s : State) : Result := runRead 4 (eaZpx s z) false opLdy s

/-- `LDY` absolute,X, $BC (R203, R180). -/
def execLdyAbx (a : Addr) (s : State) : Result := runRead 4 (eaAbx s a) (pageCrossed a (eaAbx s a)) opLdy s

/-- `STA` (indirect,X), $81 (R204, R183). -/
def execStaIzx (z : Byte) (s : State) : Result := runAddress 6 (eaIzx s z) opSta s

/-- `STA` zero-page, $85 (R204, R176). -/
def execStaZp0 (z : Byte) (s : State) : Result := runAddress 3 (eaZp0 z) opSta s

/-- `STA` absolute, $8D (R204, R179). -/
def execStaAbs (a : Addr) (s : State) : Result := runAddress 4 (eaAbs a) opSta s

/-- `STA` (indirect),Y, $91 (R204, R184). -/
def execStaIzy (z : Byte) (s : State) : Result := runAddress 6 (eaIzy s z) opSta s

/-- `STA` zero-page,X, $95 (R204, R177). -/
def execStaZpx (z : Byte) (s : State) : Result := runAddress 4 (eaZpx s z) opSta s

/-- `STA` absolute,Y, $99 (R204, R181). -/
def execStaAby (a : Addr) (s : State) : Result := runAddress 5 (eaAby s a) opSta s

/-- `STA` absolute,X, $9D (R204, R180). -/
def execStaAbx (a : Addr) (s : State) : Result := runAddress 5 (eaAbx s a) opSta s

/-- `STX` zero-page, $86 (R205, R176). -/
def execStxZp0 (z : Byte) (s : State) : Result := runAddress 3 (eaZp0 z) opStx s

/-- `STX` absolute, $8E (R205, R179). -/
def execStxAbs (a : Addr) (s : State) : Result := runAddress 4 (eaAbs a) opStx s

/-- `STX` zero-page,Y, $96 (R205, R178). -/
def execStxZpy (z : Byte) (s : State) : Result := runAddress 4 (eaZpy s z) opStx s

/-- `STY` zero-page, $84 (R206, R176). -/
def execStyZp0 (z : Byte) (s : State) : Result := runAddress 3 (eaZp0 z) opSty s

/-- `STY` absolute, $8C (R206, R179). -/
def execStyAbs (a : Addr) (s : State) : Result := runAddress 4 (eaAbs a) opSty s

/-- `STY` zero-page,X, $94 (R206, R177). -/
def execStyZpx (z : Byte) (s : State) : Result := runAddress 4 (eaZpx s z) opSty s

/-- `TAX` implied, $AA (R207, R173). -/
def execTax (s : State) : Result := runImplied 2 opTax s

/-- `TAY` implied, $A8 (R208, R173). -/
def execTay (s : State) : Result := runImplied 2 opTay s

/-- `TXA` implied, $8A (R209, R173). -/
def execTxa (s : State) : Result := runImplied 2 opTxa s

/-- `TYA` implied, $98 (R210, R173). -/
def execTya (s : State) : Result := runImplied 2 opTya s

/-- `TSX` implied, $BA (R211, R173). -/
def execTsx (s : State) : Result := runImplied 2 opTsx s

/-- `TXS` implied, $9A (R212, R173). -/
def execTxs (s : State) : Result := runImplied 2 opTxs s

end Sys2Proof.Machine
end

