-- ==== Sys2Proof/Machine/Shift.lean ====
section
/-! DEFINITION. The meanings of the instructions of 43_shift_rotate.md, one definition for each row of the opcode table: its
base cycles (30_encoding.md R145), its addressing mode and its operation. -/

namespace Sys2Proof.Machine

/-- `ASL` zero-page, $06 (R251, R176). -/
def execAslZp0 (z : Byte) (s : State) : Result := runModify 5 (eaZp0 z) opAsl s

/-- `ASL` accumulator, $0A (R251, R174). -/
def execAslAcc (s : State) : Result := runImplied 2 opAslAcc s

/-- `ASL` absolute, $0E (R251, R179). -/
def execAslAbs (a : Addr) (s : State) : Result := runModify 6 (eaAbs a) opAsl s

/-- `ASL` zero-page,X, $16 (R251, R177). -/
def execAslZpx (z : Byte) (s : State) : Result := runModify 6 (eaZpx s z) opAsl s

/-- `ASL` absolute,X, $1E (R251, R180). -/
def execAslAbx (a : Addr) (s : State) : Result := runModify 7 (eaAbx s a) opAsl s

/-- `LSR` zero-page, $46 (R252, R176). -/
def execLsrZp0 (z : Byte) (s : State) : Result := runModify 5 (eaZp0 z) opLsr s

/-- `LSR` accumulator, $4A (R252, R174). -/
def execLsrAcc (s : State) : Result := runImplied 2 opLsrAcc s

/-- `LSR` absolute, $4E (R252, R179). -/
def execLsrAbs (a : Addr) (s : State) : Result := runModify 6 (eaAbs a) opLsr s

/-- `LSR` zero-page,X, $56 (R252, R177). -/
def execLsrZpx (z : Byte) (s : State) : Result := runModify 6 (eaZpx s z) opLsr s

/-- `LSR` absolute,X, $5E (R252, R180). -/
def execLsrAbx (a : Addr) (s : State) : Result := runModify 7 (eaAbx s a) opLsr s

/-- `ROL` zero-page, $26 (R253, R176). -/
def execRolZp0 (z : Byte) (s : State) : Result := runModify 5 (eaZp0 z) opRol s

/-- `ROL` accumulator, $2A (R253, R174). -/
def execRolAcc (s : State) : Result := runImplied 2 opRolAcc s

/-- `ROL` absolute, $2E (R253, R179). -/
def execRolAbs (a : Addr) (s : State) : Result := runModify 6 (eaAbs a) opRol s

/-- `ROL` zero-page,X, $36 (R253, R177). -/
def execRolZpx (z : Byte) (s : State) : Result := runModify 6 (eaZpx s z) opRol s

/-- `ROL` absolute,X, $3E (R253, R180). -/
def execRolAbx (a : Addr) (s : State) : Result := runModify 7 (eaAbx s a) opRol s

/-- `ROR` zero-page, $66 (R254, R176). -/
def execRorZp0 (z : Byte) (s : State) : Result := runModify 5 (eaZp0 z) opRor s

/-- `ROR` accumulator, $6A (R254, R174). -/
def execRorAcc (s : State) : Result := runImplied 2 opRorAcc s

/-- `ROR` absolute, $6E (R254, R179). -/
def execRorAbs (a : Addr) (s : State) : Result := runModify 6 (eaAbs a) opRor s

/-- `ROR` zero-page,X, $76 (R254, R177). -/
def execRorZpx (z : Byte) (s : State) : Result := runModify 6 (eaZpx s z) opRor s

/-- `ROR` absolute,X, $7E (R254, R180). -/
def execRorAbx (a : Addr) (s : State) : Result := runModify 7 (eaAbx s a) opRor s

end Sys2Proof.Machine
end

