-- ==== Sys2Proof/Machine/StackFlag.lean ====
section
/-! DEFINITION. The meanings of the instructions of 45_stack_flags_nop.md, one definition for each row of the opcode table: its
base cycles (30_encoding.md R145), its addressing mode and its operation. -/

namespace Sys2Proof.Machine

/-- `PHA` implied, $48 (R281, R173). -/
def execPha (s : State) : Result := runImplied 3 opPha s

/-- `PLA` implied, $68 (R282, R173). -/
def execPla (s : State) : Result := runImplied 4 opPla s

/-- `PHP` implied, $08 (R284, R173). -/
def execPhp (s : State) : Result := runImplied 3 opPhp s

/-- `PLP` implied, $28 (R283, R173). -/
def execPlp (s : State) : Result := runImplied 4 opPlp s

/-- `CLC` implied, $18 (R285, R173). -/
def execClc (s : State) : Result := runImplied 2 opClc s

/-- `SEC` implied, $38 (R286, R173). -/
def execSec (s : State) : Result := runImplied 2 opSec s

/-- `CLI` implied, $58 (R287, R173). -/
def execCli (s : State) : Result := runImplied 2 opCli s

/-- `SEI` implied, $78 (R288, R173). -/
def execSei (s : State) : Result := runImplied 2 opSei s

/-- `CLV` implied, $B8 (R289, R173). -/
def execClv (s : State) : Result := runImplied 2 opClv s

/-- `CLD` implied, $D8 (R290, R173). -/
def execCld (s : State) : Result := runImplied 2 opCld s

/-- `SED` implied, $F8 (R291, R173). -/
def execSed (s : State) : Result := runImplied 2 opSed s

/-- `NOP` implied, $EA (R295, R173). -/
def execNop (s : State) : Result := runImplied 2 opNop s

end Sys2Proof.Machine
end

