-- ==== Sys2Proof/Decode.lean ====
section
/-! DEFINITION. The decoder, a lookup of the opcode byte in the map of 30_encoding.md R147, total on any
bytes and rejecting by name; and after it the encoder, written from the map by mnemonic of R145. -/

namespace Sys2Proof

/-- Why bytes are no instruction. -/
inductive DecodeError where
  /-- There is no byte to decode. -/
  | noBytes
  /-- The opcode byte has no row in the table (30_encoding.md R150). -/
  | illegalOpcode (opcode : Byte)
  /-- The bytes end before the operand bytes of the opcode's mode (30_encoding.md R140). -/
  | missingOperand (opcode : Byte)
  deriving DecidableEq, Repr

/-- What an opcode byte selects: the instruction of a one-byte row, or how the operand bytes complete it
(30_encoding.md R141). -/
inductive Form where
  | imp (i : Instr)
  | byte (f : Byte → Instr)
  | word (f : Addr → Instr)

/-- Row 0 of the opcode map by byte value (30_encoding.md R147). -/
def opcodeRow0 : List (Nat × Form) :=
  [(0x00, .imp .brk), (0x01, .byte .oraIzx), (0x05, .byte .oraZp0), (0x06, .byte .aslZp0),
   (0x08, .imp .php), (0x09, .byte .oraImm), (0x0A, .imp .aslAcc), (0x0D, .word .oraAbs),
   (0x0E, .word .aslAbs)]

/-- Row 1 of the opcode map by byte value (30_encoding.md R147). -/
def opcodeRow1 : List (Nat × Form) :=
  [(0x10, .byte .bpl), (0x11, .byte .oraIzy), (0x15, .byte .oraZpx), (0x16, .byte .aslZpx),
   (0x18, .imp .clc), (0x19, .word .oraAby), (0x1D, .word .oraAbx), (0x1E, .word .aslAbx)]

/-- Row 2 of the opcode map by byte value (30_encoding.md R147). -/
def opcodeRow2 : List (Nat × Form) :=
  [(0x20, .word .jsr), (0x21, .byte .andIzx), (0x24, .byte .bitZp0), (0x25, .byte .andZp0),
   (0x26, .byte .rolZp0), (0x28, .imp .plp), (0x29, .byte .andImm), (0x2A, .imp .rolAcc),
   (0x2C, .word .bitAbs), (0x2D, .word .andAbs), (0x2E, .word .rolAbs)]

/-- Row 3 of the opcode map by byte value (30_encoding.md R147). -/
def opcodeRow3 : List (Nat × Form) :=
  [(0x30, .byte .bmi), (0x31, .byte .andIzy), (0x35, .byte .andZpx), (0x36, .byte .rolZpx),
   (0x38, .imp .sec), (0x39, .word .andAby), (0x3D, .word .andAbx), (0x3E, .word .rolAbx)]

/-- Row 4 of the opcode map by byte value (30_encoding.md R147). -/
def opcodeRow4 : List (Nat × Form) :=
  [(0x40, .imp .rti), (0x41, .byte .eorIzx), (0x45, .byte .eorZp0), (0x46, .byte .lsrZp0),
   (0x48, .imp .pha), (0x49, .byte .eorImm), (0x4A, .imp .lsrAcc), (0x4C, .word .jmpAbs),
   (0x4D, .word .eorAbs), (0x4E, .word .lsrAbs)]

/-- Row 5 of the opcode map by byte value (30_encoding.md R147). -/
def opcodeRow5 : List (Nat × Form) :=
  [(0x50, .byte .bvc), (0x51, .byte .eorIzy), (0x55, .byte .eorZpx), (0x56, .byte .lsrZpx),
   (0x58, .imp .cli), (0x59, .word .eorAby), (0x5D, .word .eorAbx), (0x5E, .word .lsrAbx)]

/-- Row 6 of the opcode map by byte value (30_encoding.md R147). -/
def opcodeRow6 : List (Nat × Form) :=
  [(0x60, .imp .rts), (0x61, .byte .adcIzx), (0x65, .byte .adcZp0), (0x66, .byte .rorZp0),
   (0x68, .imp .pla), (0x69, .byte .adcImm), (0x6A, .imp .rorAcc), (0x6C, .word .jmpInd),
   (0x6D, .word .adcAbs), (0x6E, .word .rorAbs)]

/-- Row 7 of the opcode map by byte value (30_encoding.md R147). -/
def opcodeRow7 : List (Nat × Form) :=
  [(0x70, .byte .bvs), (0x71, .byte .adcIzy), (0x75, .byte .adcZpx), (0x76, .byte .rorZpx),
   (0x78, .imp .sei), (0x79, .word .adcAby), (0x7D, .word .adcAbx), (0x7E, .word .rorAbx)]

/-- Row 8 of the opcode map by byte value (30_encoding.md R147). -/
def opcodeRow8 : List (Nat × Form) :=
  [(0x81, .byte .staIzx), (0x84, .byte .styZp0), (0x85, .byte .staZp0), (0x86, .byte .stxZp0),
   (0x88, .imp .dey), (0x8A, .imp .txa), (0x8C, .word .styAbs), (0x8D, .word .staAbs),
   (0x8E, .word .stxAbs)]

/-- Row 9 of the opcode map by byte value (30_encoding.md R147). -/
def opcodeRow9 : List (Nat × Form) :=
  [(0x90, .byte .bcc), (0x91, .byte .staIzy), (0x94, .byte .styZpx), (0x95, .byte .staZpx),
   (0x96, .byte .stxZpy), (0x98, .imp .tya), (0x99, .word .staAby), (0x9A, .imp .txs),
   (0x9D, .word .staAbx)]

/-- Row A of the opcode map by byte value (30_encoding.md R147). -/
def opcodeRowA : List (Nat × Form) :=
  [(0xA0, .byte .ldyImm), (0xA1, .byte .ldaIzx), (0xA2, .byte .ldxImm), (0xA4, .byte .ldyZp0),
   (0xA5, .byte .ldaZp0), (0xA6, .byte .ldxZp0), (0xA8, .imp .tay), (0xA9, .byte .ldaImm),
   (0xAA, .imp .tax), (0xAC, .word .ldyAbs), (0xAD, .word .ldaAbs), (0xAE, .word .ldxAbs)]

/-- Row B of the opcode map by byte value (30_encoding.md R147). -/
def opcodeRowB : List (Nat × Form) :=
  [(0xB0, .byte .bcs), (0xB1, .byte .ldaIzy), (0xB4, .byte .ldyZpx), (0xB5, .byte .ldaZpx),
   (0xB6, .byte .ldxZpy), (0xB8, .imp .clv), (0xB9, .word .ldaAby), (0xBA, .imp .tsx),
   (0xBC, .word .ldyAbx), (0xBD, .word .ldaAbx), (0xBE, .word .ldxAby)]

/-- Row C of the opcode map by byte value (30_encoding.md R147). -/
def opcodeRowC : List (Nat × Form) :=
  [(0xC0, .byte .cpyImm), (0xC1, .byte .cmpIzx), (0xC4, .byte .cpyZp0), (0xC5, .byte .cmpZp0),
   (0xC6, .byte .decZp0), (0xC8, .imp .iny), (0xC9, .byte .cmpImm), (0xCA, .imp .dex),
   (0xCC, .word .cpyAbs), (0xCD, .word .cmpAbs), (0xCE, .word .decAbs)]

/-- Row D of the opcode map by byte value (30_encoding.md R147). -/
def opcodeRowD : List (Nat × Form) :=
  [(0xD0, .byte .bne), (0xD1, .byte .cmpIzy), (0xD5, .byte .cmpZpx), (0xD6, .byte .decZpx),
   (0xD8, .imp .cld), (0xD9, .word .cmpAby), (0xDD, .word .cmpAbx), (0xDE, .word .decAbx)]

/-- Row E of the opcode map by byte value (30_encoding.md R147). -/
def opcodeRowE : List (Nat × Form) :=
  [(0xE0, .byte .cpxImm), (0xE1, .byte .sbcIzx), (0xE4, .byte .cpxZp0), (0xE5, .byte .sbcZp0),
   (0xE6, .byte .incZp0), (0xE8, .imp .inx), (0xE9, .byte .sbcImm), (0xEA, .imp .nop),
   (0xEC, .word .cpxAbs), (0xED, .word .sbcAbs), (0xEE, .word .incAbs)]

/-- Row F of the opcode map by byte value (30_encoding.md R147). -/
def opcodeRowF : List (Nat × Form) :=
  [(0xF0, .byte .beq), (0xF1, .byte .sbcIzy), (0xF5, .byte .sbcZpx), (0xF6, .byte .incZpx),
   (0xF8, .imp .sed), (0xF9, .word .sbcAby), (0xFD, .word .sbcAbx), (0xFE, .word .incAbx)]

/-- The opcode table, 151 rows, by the high nibble of the opcode byte (30_encoding.md R146, R147). -/
def opcodeRow (high : Nat) : List (Nat × Form) :=
  match high with
  | 0 => opcodeRow0
  | 1 => opcodeRow1
  | 2 => opcodeRow2
  | 3 => opcodeRow3
  | 4 => opcodeRow4
  | 5 => opcodeRow5
  | 6 => opcodeRow6
  | 7 => opcodeRow7
  | 8 => opcodeRow8
  | 9 => opcodeRow9
  | 10 => opcodeRowA
  | 11 => opcodeRowB
  | 12 => opcodeRowC
  | 13 => opcodeRowD
  | 14 => opcodeRowE
  | 15 => opcodeRowF
  | _ => []

/-- The first row with this opcode. -/
def findRow : List (Nat × Form) → Nat → Option Form
  | [], _ => none
  | (k, f) :: rows, n => if n = k then some f else findRow rows n

/-- The row of an opcode byte (40_cpu_engine.md R171). -/
def formOf (opcode : Byte) : Option Form := findRow (opcodeRow (opcode.toNat / 16)) opcode.toNat

/-- The number of operand bytes of a row (30_encoding.md R140). -/
def Form.operandBytes : Form → Nat
  | .imp _ => 0
  | .byte _ => 1
  | .word _ => 2

/-- The instruction of a row, from the operand bytes at the head of `bs`; the bytes after them are left
over (30_encoding.md R141, R143). -/
def Form.complete (opcode : Byte) (f : Form) (bs : List Byte) : Except DecodeError (Instr × List Byte) :=
  match f, bs with
  | .imp i, rest => .ok (i, rest)
  | .byte f, b :: rest => .ok (f b, rest)
  | .word f, lo :: hi :: rest => .ok (f (word16 hi lo), rest)
  | _, _ => .error (.missingOperand opcode)

/-- Decode the instruction at the head of `bs`; the bytes after it are left over. -/
def decode (bs : List Byte) : Except DecodeError (Instr × List Byte) :=
  match bs with
  | [] => .error .noBytes
  | opcode :: rest =>
    match formOf opcode with
    | none => .error (.illegalOpcode opcode)
    | some f => f.complete opcode rest

/-- A 16-bit operand as its two bytes, low byte first (20_memory.md R128). -/
def leBytes (a : Addr) : List Byte := [loByte a, hiByte a]

/-- The bytes of an instruction (30_encoding.md R145). -/
def encode (i : Instr) : List Byte :=
  match i with
  | .ldaIzx z => [0xA1#8, z]
  | .ldaZp0 z => [0xA5#8, z]
  | .ldaImm d => [0xA9#8, d]
  | .ldaAbs a => 0xAD#8 :: leBytes a
  | .ldaIzy z => [0xB1#8, z]
  | .ldaZpx z => [0xB5#8, z]
  | .ldaAby a => 0xB9#8 :: leBytes a
  | .ldaAbx a => 0xBD#8 :: leBytes a
  | .ldxImm d => [0xA2#8, d]
  | .ldxZp0 z => [0xA6#8, z]
  | .ldxAbs a => 0xAE#8 :: leBytes a
  | .ldxZpy z => [0xB6#8, z]
  | .ldxAby a => 0xBE#8 :: leBytes a
  | .ldyImm d => [0xA0#8, d]
  | .ldyZp0 z => [0xA4#8, z]
  | .ldyAbs a => 0xAC#8 :: leBytes a
  | .ldyZpx z => [0xB4#8, z]
  | .ldyAbx a => 0xBC#8 :: leBytes a
  | .staIzx z => [0x81#8, z]
  | .staZp0 z => [0x85#8, z]
  | .staAbs a => 0x8D#8 :: leBytes a
  | .staIzy z => [0x91#8, z]
  | .staZpx z => [0x95#8, z]
  | .staAby a => 0x99#8 :: leBytes a
  | .staAbx a => 0x9D#8 :: leBytes a
  | .stxZp0 z => [0x86#8, z]
  | .stxAbs a => 0x8E#8 :: leBytes a
  | .stxZpy z => [0x96#8, z]
  | .styZp0 z => [0x84#8, z]
  | .styAbs a => 0x8C#8 :: leBytes a
  | .styZpx z => [0x94#8, z]
  | .tax => [0xAA#8]
  | .tay => [0xA8#8]
  | .txa => [0x8A#8]
  | .tya => [0x98#8]
  | .tsx => [0xBA#8]
  | .txs => [0x9A#8]
  | .adcIzx z => [0x61#8, z]
  | .adcZp0 z => [0x65#8, z]
  | .adcImm d => [0x69#8, d]
  | .adcAbs a => 0x6D#8 :: leBytes a
  | .adcIzy z => [0x71#8, z]
  | .adcZpx z => [0x75#8, z]
  | .adcAby a => 0x79#8 :: leBytes a
  | .adcAbx a => 0x7D#8 :: leBytes a
  | .sbcIzx z => [0xE1#8, z]
  | .sbcZp0 z => [0xE5#8, z]
  | .sbcImm d => [0xE9#8, d]
  | .sbcAbs a => 0xED#8 :: leBytes a
  | .sbcIzy z => [0xF1#8, z]
  | .sbcZpx z => [0xF5#8, z]
  | .sbcAby a => 0xF9#8 :: leBytes a
  | .sbcAbx a => 0xFD#8 :: leBytes a
  | .andIzx z => [0x21#8, z]
  | .andZp0 z => [0x25#8, z]
  | .andImm d => [0x29#8, d]
  | .andAbs a => 0x2D#8 :: leBytes a
  | .andIzy z => [0x31#8, z]
  | .andZpx z => [0x35#8, z]
  | .andAby a => 0x39#8 :: leBytes a
  | .andAbx a => 0x3D#8 :: leBytes a
  | .oraIzx z => [0x01#8, z]
  | .oraZp0 z => [0x05#8, z]
  | .oraImm d => [0x09#8, d]
  | .oraAbs a => 0x0D#8 :: leBytes a
  | .oraIzy z => [0x11#8, z]
  | .oraZpx z => [0x15#8, z]
  | .oraAby a => 0x19#8 :: leBytes a
  | .oraAbx a => 0x1D#8 :: leBytes a
  | .eorIzx z => [0x41#8, z]
  | .eorZp0 z => [0x45#8, z]
  | .eorImm d => [0x49#8, d]
  | .eorAbs a => 0x4D#8 :: leBytes a
  | .eorIzy z => [0x51#8, z]
  | .eorZpx z => [0x55#8, z]
  | .eorAby a => 0x59#8 :: leBytes a
  | .eorAbx a => 0x5D#8 :: leBytes a
  | .cmpIzx z => [0xC1#8, z]
  | .cmpZp0 z => [0xC5#8, z]
  | .cmpImm d => [0xC9#8, d]
  | .cmpAbs a => 0xCD#8 :: leBytes a
  | .cmpIzy z => [0xD1#8, z]
  | .cmpZpx z => [0xD5#8, z]
  | .cmpAby a => 0xD9#8 :: leBytes a
  | .cmpAbx a => 0xDD#8 :: leBytes a
  | .cpxImm d => [0xE0#8, d]
  | .cpxZp0 z => [0xE4#8, z]
  | .cpxAbs a => 0xEC#8 :: leBytes a
  | .cpyImm d => [0xC0#8, d]
  | .cpyZp0 z => [0xC4#8, z]
  | .cpyAbs a => 0xCC#8 :: leBytes a
  | .bitZp0 z => [0x24#8, z]
  | .bitAbs a => 0x2C#8 :: leBytes a
  | .incZp0 z => [0xE6#8, z]
  | .incAbs a => 0xEE#8 :: leBytes a
  | .incZpx z => [0xF6#8, z]
  | .incAbx a => 0xFE#8 :: leBytes a
  | .decZp0 z => [0xC6#8, z]
  | .decAbs a => 0xCE#8 :: leBytes a
  | .decZpx z => [0xD6#8, z]
  | .decAbx a => 0xDE#8 :: leBytes a
  | .inx => [0xE8#8]
  | .iny => [0xC8#8]
  | .dex => [0xCA#8]
  | .dey => [0x88#8]
  | .aslZp0 z => [0x06#8, z]
  | .aslAcc => [0x0A#8]
  | .aslAbs a => 0x0E#8 :: leBytes a
  | .aslZpx z => [0x16#8, z]
  | .aslAbx a => 0x1E#8 :: leBytes a
  | .lsrZp0 z => [0x46#8, z]
  | .lsrAcc => [0x4A#8]
  | .lsrAbs a => 0x4E#8 :: leBytes a
  | .lsrZpx z => [0x56#8, z]
  | .lsrAbx a => 0x5E#8 :: leBytes a
  | .rolZp0 z => [0x26#8, z]
  | .rolAcc => [0x2A#8]
  | .rolAbs a => 0x2E#8 :: leBytes a
  | .rolZpx z => [0x36#8, z]
  | .rolAbx a => 0x3E#8 :: leBytes a
  | .rorZp0 z => [0x66#8, z]
  | .rorAcc => [0x6A#8]
  | .rorAbs a => 0x6E#8 :: leBytes a
  | .rorZpx z => [0x76#8, z]
  | .rorAbx a => 0x7E#8 :: leBytes a
  | .jmpAbs a => 0x4C#8 :: leBytes a
  | .jmpInd a => 0x6C#8 :: leBytes a
  | .jsr a => 0x20#8 :: leBytes a
  | .rts => [0x60#8]
  | .rti => [0x40#8]
  | .brk => [0x00#8]
  | .bcc r => [0x90#8, r]
  | .bcs r => [0xB0#8, r]
  | .beq r => [0xF0#8, r]
  | .bne r => [0xD0#8, r]
  | .bmi r => [0x30#8, r]
  | .bpl r => [0x10#8, r]
  | .bvc r => [0x50#8, r]
  | .bvs r => [0x70#8, r]
  | .pha => [0x48#8]
  | .pla => [0x68#8]
  | .php => [0x08#8]
  | .plp => [0x28#8]
  | .clc => [0x18#8]
  | .sec => [0x38#8]
  | .cli => [0x58#8]
  | .sei => [0x78#8]
  | .clv => [0xB8#8]
  | .cld => [0xD8#8]
  | .sed => [0xF8#8]
  | .nop => [0xEA#8]

/-- The `n` lowest bytes of `w`, the lowest first. -/
def natBytes : Nat → Nat → List Byte
  | 0, _ => []
  | n + 1, w => BitVec.ofNat 8 w :: natBytes n (w / 256)

/-- The three bytes an instruction whose `nbits` low bits are `w` lies in, every bit above `nbits` zero: bit 0
is bit 0 of the first byte. -/
def tableBytes (nbits w : Nat) : List Byte := natBytes 3 (w % 2 ^ nbits)

/-- The instruction the decoder reads from a word numbered as spec/opcode_table.json numbers its bits. -/
def decodeTableWord (nbits w : Nat) : Option Instr :=
  match decode (tableBytes nbits w) with
  | .ok (i, _) => some i
  | .error _ => none

end Sys2Proof
end

