-- ==== Sys2Proof/Machine/Fetch.lean ====
section
/-! DEFINITION. Fetching an instruction's bytes through the bus (40_cpu_engine.md R170, 20_memory.md R136), and
placing an instruction where the machine fetches next. -/

namespace Sys2Proof.Machine

/-- `Rd(PC); PC <- PC + 1`: the byte and the state after (R170). -/
def fetchByte (s : State) : Byte × State :=
  (busPeek s s.cpu.pc, (busTouch s s.cpu.pc).setPc (s.cpu.pc + 1#16))

/-- `n` bytes fetched in ascending order. -/
def fetchBytes : Nat → State → List Byte × State
  | 0, s => ([], s)
  | n + 1, s =>
    let (b, s1) := fetchByte s
    let (bs, s2) := fetchBytes n s1
    (b :: bs, s2)

/-- The opcode byte, then the operand bytes its row asks for: the instruction and the state with `PC` past it,
or the illegal opcode and its address (R170, 30_encoding.md R150). -/
def fetch (s : State) : Except Fault (Instr × State) :=
  let (opcode, s1) := fetchByte s
  match formOf opcode with
  | none => .error (.illegalOpcode opcode s.cpu.pc)
  | some f =>
    let (operand, s2) := fetchBytes f.operandBytes s1
    match decode (opcode :: operand) with
    | .ok (i, _) => .ok (i, s2)
    | .error _ => .error (.illegalOpcode opcode s.cpu.pc)

/-- Whether a byte of RAM, PRG-RAM or PRG-ROM stands at `a`, so that a program can be placed there. -/
def placeable (s : State) (a : Addr) : Bool :=
  match busRegion a with
  | .ram => true
  | .mapper =>
    if a.toNat < 0x8000 then prgRamEnabled s else (prgWindow s (decide (0xC000 ≤ a.toNat))).isSome
  | .ppu => false
  | .oamDma => false
  | .pad1 => false
  | .pad2 => false
  | .unmapped => false

/-- A byte placed in the RAM, PRG-RAM or PRG-ROM cell that `a` reads, as a load of the program would put it
there; elsewhere nothing. -/
def placeByteAt (s : State) (a : Addr) (v : Byte) : State :=
  match busRegion a with
  | .ram => ramWrite s (ramIndex a) v
  | .mapper =>
    if a.toNat < 0x8000 then (if prgRamEnabled s then prgRamWrite s (a.toNat - 0x6000) v else s)
    else
      match prgWindow s (decide (0xC000 ≤ a.toNat)) with
      | some bank =>
        s.setCart { s.cart with
          prgRom := s.cart.prgRom.write unlistedByte
            (bank * Config.prgBankSize + a.toNat % Config.prgBankSize) v }
      | none => s
  | .ppu => s
  | .oamDma => s
  | .pad1 => s
  | .pad2 => s
  | .unmapped => s

/-- Bytes placed from `a` on. -/
def placeBytes : List Byte → Addr → State → State
  | [], _, s => s
  | b :: bs, a, s => placeBytes bs (a + 1#16) (placeByteAt s a b)

/-- The bytes `bs` (at most three) placed at `PC`, the machine made idle so that the next step fetches them.
Where no memory stands at `PC` they are placed at $0000 and `PC` is moved there (log 13). -/
def placeProgram (bs : List Byte) (s : State) : State :=
  let pc := s.cpu.pc
  let here := placeable s pc && placeable s (pc + 1#16) && placeable s (pc + 2#16)
  let s1 := if here then s else s.setPc 0#16
  placeBytes bs s1.cpu.pc ((s1.setCyc 0).setInputs [])

end Sys2Proof.Machine
end

