-- ==== Sys2Proof/Machine/PpuBackground.lean ====
section
/-! DEFINITION. The background pipeline (47_ppu_background.md R350 to R363). -/

namespace Sys2Proof.Machine

/-- The nametable address `$2000 | (v & $0FFF)` (R351). -/
def ntFetchAddr (v : BitVec 15) : BitVec 14 := 0x2000#14 ||| (v.setWidth 14 &&& 0x0FFF#14)

/-- The attribute address (R352). -/
def atFetchAddr (v : BitVec 15) : BitVec 14 :=
  0x23C0#14 ||| (v.setWidth 14 &&& 0x0C00#14) ||| ((v >>> 4).setWidth 14 &&& 0x0038#14) |||
    ((v >>> 2).setWidth 14 &&& 0x0007#14)

/-- The quadrant shift `((v >> 4) & 4) | (v & 2)` (R352). -/
def atShift (v : BitVec 15) : Nat := (((v >>> 4) &&& 4#15) ||| (v &&& 2#15)).toNat

/-- The address of the low pattern byte of the fetched tile's row (R353). -/
def patFetchAddr (p : Ppu) : BitVec 14 :=
  (if p.bgTable then 0x1000#14 else 0#14) ||| (p.ntByte.setWidth 14 <<< 4) ||| (fineY p.v).setWidth 14

/-- `FetchNametable()` (R351). -/
def fetchNametable (s : State) : State :=
  s.setPpu { s.ppu with ntByte := ppuRd s (ntFetchAddr s.ppu.v) }

/-- `FetchAttribute()` (R352). -/
def fetchAttribute (s : State) : State :=
  s.setPpu { s.ppu with atBits := (ppuRd s (atFetchAddr s.ppu.v) >>> atShift s.ppu.v).setWidth 2 }

/-- `FetchPatternLow()` (R353). -/
def fetchPatternLow (s : State) : State :=
  s.setPpu { s.ppu with patLo := ppuRd s (patFetchAddr s.ppu) }

/-- `FetchPatternHigh()` (R354). -/
def fetchPatternHigh (s : State) : State :=
  s.setPpu { s.ppu with patHi := ppuRd s (patFetchAddr s.ppu ||| 8#14) }

/-- The shift of both registers (R356). -/
def shiftBackground (p : Ppu) : Ppu := { p with bgLo := p.bgLo <<< 1, bgHi := p.bgHi <<< 1 }

/-- `ReloadShifters()` (R355). -/
def reloadShifters (p : Ppu) : Ppu :=
  { p with
    bgLo := (p.bgLo &&& 0xFF00#16) ||| p.patLo.setWidth 16
    bgHi := (p.bgHi &&& 0xFF00#16) ||| p.patHi.setWidth 16
    palLatch0 := p.palLatch1
    palLatch1 := p.atBits }

/-- The fetch windows: cycles 1 to 256 and 321 to 336 (R350). -/
def inFetchWindow (c : Nat) : Bool :=
  (decide (1 ≤ c) && decide (c ≤ 256)) || (decide (321 ≤ c) && decide (c ≤ 336))

/-- The work of one cycle of a fetch window after the shift (R350). -/
def fetchPhase (c : Nat) (s : State) : State :=
  match c % 8 with
  | 1 => fetchNametable s
  | 3 => fetchAttribute s
  | 5 => fetchPatternLow s
  | 7 => fetchPatternHigh s
  | 0 => s.setPpu { reloadShifters s.ppu with v := incCoarseX s.ppu.v }
  | _ => s

/-- `v` after the fine-Y increment at cycle 256 (R350, R361). -/
def fineYStep (c : Nat) (p : Ppu) : Ppu := if c = 256 then { p with v := incFineY p.v } else p

/-- The part of `BackgroundStep` inside a fetch window (R350). -/
def fetchWindowStep (c : Nat) (s : State) : State :=
  if inFetchWindow c then
    let s1 := fetchPhase c (s.setPpu (shiftBackground s.ppu))
    s1.setPpu (fineYStep c s1.ppu)
  else s

/-- The copies from `t` at cycle 257 and at cycles 280 to 304 of the pre-render line (R362, R363). -/
def scrollCopies (l c : Nat) (p : Ppu) : Ppu :=
  if c = 257 then { p with v := copyHorizontal p.t p.v }
  else if l = 261 ∧ 280 ≤ c ∧ c ≤ 304 then { p with v := copyVertical p.t p.v }
  else p

/-- `BackgroundStep(L, c)` (R350). -/
def backgroundStep (l c : Nat) (s : State) : State :=
  let s1 := fetchWindowStep c s
  s1.setPpu (scrollCopies l c s1.ppu)

/-- The value of `BgPixel(c)` (R357): bit `15 - x` of each shift register. -/
def bgPixelValue (p : Ppu) : BitVec 2 :=
  BitVec.ofBool (p.bgHi.getLsbD (15 - p.x.toNat)) ++ BitVec.ofBool (p.bgLo.getLsbD (15 - p.x.toNat))

/-- The palette of `BgPixel(c)` (R357). -/
def bgPixelPalette (p : Ppu) (c : Nat) : BitVec 2 :=
  if 8 ≤ p.x.toNat + (c - 1) % 8 then p.palLatch1 else p.palLatch0

end Sys2Proof.Machine
end

