-- ==== Sys2Proof/Machine/PpuSprites.lean ====
section
/-! DEFINITION. Sprite evaluation, sprite fetch, pixel composition and the framebuffer
(48_ppu_sprites_output.md). -/

namespace Sys2Proof.Machine

/-- Byte `i` of the evaluation side of secondary OAM (10_state.md R51). -/
def secEvalRead (p : Ppu) (i : Nat) : Byte := p.secEval.read unlistedSecondary i
/-- Byte `i` of the rendering side of secondary OAM (10_state.md R52). -/
def secRendRead (p : Ppu) (i : Nat) : Byte := p.secRend.read unlistedSecondary i
/-- Byte `i` of the evaluation side `<- v`. -/
def secEvalWrite (p : Ppu) (i : Nat) (v : Byte) : Ppu :=
  { p with secEval := p.secEval.write unlistedSecondary i v }

/-- `ClearStep(c)` (R381). -/
def clearStep (c : Nat) (p : Ppu) : Ppu :=
  let p1 := if c = 1 then { p with secEvalCount := 0, secEvalHasZero := false } else p
  if c % 2 = 0 then secEvalWrite p1 (c / 2 - 1) 0xFF#8 else p1

/-- `InRange(L, y)` (R383). -/
def inRange (p : Ppu) (l : Nat) (y : Byte) : Bool :=
  decide (y.toNat ≤ l) && decide (l - y.toNat < (if p.spTall then 16 else 8))

/-- Sprite entry `n` copied into the next slot of the evaluation side (R382). -/
def copySprite (n : Nat) (p : Ppu) : Ppu :=
  let k := p.secEvalCount
  let p1 := secEvalWrite p (4 * k) (oamRead p (4 * n))
  let p2 := secEvalWrite p1 (4 * k + 1) (oamRead p (4 * n + 1))
  let p3 := secEvalWrite p2 (4 * k + 2) (oamRead p (4 * n + 2))
  let p4 := secEvalWrite p3 (4 * k + 3) (oamRead p (4 * n + 3))
  { p4 with secEvalHasZero := if n = 0 then true else p.secEvalHasZero, secEvalCount := k + 1 }

/-- The examination of entry `n` on line `l` (R382, R384). -/
def examineSprite (l n : Nat) (p : Ppu) : Ppu :=
  if inRange p l (oamRead p (4 * n)) then
    if p.secEvalCount < 8 then copySprite n p else { p with overflow := true }
  else p

/-- `ScanStep(L, c)` (R382): entry `n` is examined at cycle `65 + 3n`. -/
def scanStep (l c : Nat) (p : Ppu) : Ppu :=
  if (c - 65) % 3 = 0 ∧ (c - 65) / 3 ≤ 63 then examineSprite l ((c - 65) / 3) p else p

/-- `LatchSprites()` (R385). -/
def latchSprites (p : Ppu) : Ppu :=
  { p with secRend := p.secEval, secRendCount := p.secEvalCount, secRendHasZero := p.secEvalHasZero }

/-- `SpriteRowAddr(row, tile, attr)` (R389). -/
def spriteRowAddr (p : Ppu) (row tile attr : Byte) : BitVec 14 :=
  if p.spTall then
    let r := if attr.getLsbD 7 then 15#8 - (row &&& 15#8) else row &&& 15#8
    let t := (tile &&& 0xFE#8) ||| (r >>> 3)
    (if tile.getLsbD 0 then 0x1000#14 else 0#14) ||| (t.setWidth 14 <<< 4) ||| (r &&& 7#8).setWidth 14
  else
    let r := if attr.getLsbD 7 then 7#8 - (row &&& 7#8) else row &&& 7#8
    (if p.spTable then 0x1000#14 else 0#14) ||| (tile.setWidth 14 <<< 4) ||| r.setWidth 14

/-- The pattern byte of slot `k` on line `l`, `high` choosing the plane: fetched and flipped, or 0 for an empty
slot (R388, R390, R391). The row is `L - y` (log 12). -/
def spritePattern (l k : Nat) (high : Bool) (s : State) : Byte :=
  if k < s.ppu.secRendCount then
    let attr := secRendRead s.ppu (4 * k + 2)
    let a := spriteRowAddr s.ppu (BitVec.ofNat 8 l - secRendRead s.ppu (4 * k)) (secRendRead s.ppu (4 * k + 1)) attr
    let b := ppuRd s (if high then a + 8#14 else a)
    if attr.getLsbD 6 then rev8 b else b
  else 0#8

/-- `SpriteFetchStep(L, c)` (R388): slot `k` owns the eight cycles from `257 + 8k`. -/
def spriteFetchStep (l c : Nat) (s : State) : State :=
  let k := (c - 257) / 8
  match (c - 257) % 8 with
  | 4 => s.setPpu { s.ppu with sprLo := s.ppu.sprLo.write unlistedByte k (spritePattern l k false s) }
  | 6 => s.setPpu { s.ppu with sprHi := s.ppu.sprHi.write unlistedByte k (spritePattern l k true s) }
  | _ => s

/-- `SpriteStep(L, c)` (R380). -/
def spriteStep (l c : Nat) (s : State) : State :=
  if 1 ≤ c ∧ c ≤ 64 then s.setPpu (clearStep c s.ppu)
  else if 65 ≤ c ∧ c ≤ 256 then (if l ≤ 239 then s.setPpu (scanStep l c s.ppu) else s)
  else if 257 ≤ c ∧ c ≤ 320 then
    let p1 := if c = 257 then latchSprites s.ppu else s.ppu
    spriteFetchStep l c (s.setPpu { p1 with oamAddr := 0#8 })
  else s

/-- What `SpritePixel` returns (R395): the pixel value (0 = none), the sprite palette, the priority bit (true =
behind the background), whether the pixel is primary entry 0's. -/
structure SpriteDot where
  value : BitVec 2
  palette : BitVec 2
  behind : Bool
  isZero : Bool
  deriving DecidableEq, Repr

/-- No sprite pixel. -/
def SpriteDot.none : SpriteDot := { value := 0#2, palette := 0#2, behind := false, isZero := false }

/-- The pixel value of slot `k` at column `col`, 0 where the slot does not cover it (R395). -/
def slotPixel (p : Ppu) (col k : Nat) : BitVec 2 :=
  let x := (secRendRead p (4 * k + 3)).toNat
  if x ≤ col ∧ col - x ≤ 7 then
    BitVec.ofBool ((p.sprHi.read unlistedByte k).getLsbD (7 - (col - x))) ++
      BitVec.ofBool ((p.sprLo.read unlistedByte k).getLsbD (7 - (col - x)))
  else 0#2

/-- The first opaque slot among the `n` from `k` on (R395). -/
def spritePixelFrom (p : Ppu) (col : Nat) : Nat → Nat → SpriteDot
  | 0, _ => SpriteDot.none
  | n + 1, k =>
    if slotPixel p col k = 0#2 then spritePixelFrom p col n (k + 1)
    else
      { value := slotPixel p col k
        palette := (secRendRead p (4 * k + 2)).setWidth 2
        behind := (secRendRead p (4 * k + 2)).getLsbD 5
        isZero := decide (k = 0) && p.secRendHasZero }

/-- `SpritePixel(X)` (R395). -/
def spritePixel (p : Ppu) (col : Nat) : SpriteDot := spritePixelFrom p col p.secRendCount 0

/-- `Compose(bp, bpal, sp, spal, behind)` (R396): the 5-bit palette index. -/
def compose (bp bpal sp spal : BitVec 2) (behind : Bool) : BitVec 5 :=
  if sp ≠ 0#2 ∧ (bp = 0#2 ∨ behind = false) then 1#1 ++ spal ++ sp
  else if bp ≠ 0#2 then 0#1 ++ bpal ++ bp
  else 0#5

/-- The six bits `e` of `Colour(idx)` (R403): palette cell, greyscale. -/
def colourCode (p : Ppu) (idx : BitVec 5) : BitVec 6 :=
  let e : BitVec 6 := (palRead p idx.toNat).setWidth 6
  if p.grey then e &&& 0x30#6 else e

/-- `Colour(idx)` (R403): the free `HardwarePalette` of the code. -/
def colour (p : Ppu) (idx : BitVec 5) : Rgb := Config.hardwarePalette (colourCode p idx)

/-- The first byte of pixel (`row`, `col`) of a framebuffer (R405). -/
def pixelBase (row col : Nat) : Nat := 3 * (256 * row + col)

/-- A framebuffer with one pixel written. -/
def writePixel (fb : Memory) (row col : Nat) (c : Rgb) : Memory :=
  ((fb.write unlistedByte (pixelBase row col) c.red).write unlistedByte (pixelBase row col + 1)
    c.green).write unlistedByte (pixelBase row col + 2) c.blue

/-- A pixel of a framebuffer. -/
def readPixel (fb : Memory) (row col : Nat) : Rgb :=
  { red := fb.read unlistedByte (pixelBase row col), green := fb.read unlistedByte (pixelBase row col + 1),
    blue := fb.read unlistedByte (pixelBase row col + 2) }

/-- `fb[front]`, the buffer the host reads (R411). -/
def frontBuffer (p : Ppu) : Memory := if p.front then p.fb1 else p.fb0

/-- `fb[1 - front]`, the buffer the PPU writes (R405). -/
def backBuffer (p : Ppu) : Memory := if p.front then p.fb0 else p.fb1

/-- `fb[1 - front] <- m`. -/
def setBackBuffer (p : Ppu) (m : Memory) : Ppu := if p.front then { p with fb0 := m } else { p with fb1 := m }

/-- What the presentation side reads of pixel (`row`, `col`) (R411). -/
def frontPixel (s : State) (row col : Nat) : Rgb := readPixel (frontBuffer s.ppu) row col

/-- The background value at cycle `c` after left-column clipping (R357, R399). -/
def bgValueAt (clip : Bool) (p : Ppu) (c : Nat) : BitVec 2 :=
  if clip && decide (c - 1 < 8) && !p.bgLeft then 0#2 else bgPixelValue p

/-- The sprite pixel at cycle `c` after left-column clipping (R395, R399): a clipped pixel has value 0. -/
def spriteDotAt (clip : Bool) (p : Ppu) (c : Nat) : SpriteDot :=
  if clip && decide (c - 1 < 8) && !p.spLeft then SpriteDot.none else spritePixel p (c - 1)

/-- Whether the pixel of cycle `c` is a sprite-0 hit (R397, R398). -/
def sprite0HitAt (clip : Bool) (p : Ppu) (c : Nat) : Bool :=
  (spriteDotAt clip p c).isZero && decide (bgValueAt clip p c ≠ 0#2) && decide (c < 256)

/-- The palette index composed at cycle `c` (R396, R397). -/
def pixelIndexAt (clip : Bool) (p : Ppu) (c : Nat) : BitVec 5 :=
  compose (bgValueAt clip p c) (bgPixelPalette p c) (spriteDotAt clip p c).value
    (spriteDotAt clip p c).palette (spriteDotAt clip p c).behind

/-- `OutputPixel(L, c)` (R397). -/
def outputPixel (clip : Bool) (l c : Nat) (p : Ppu) : Ppu :=
  if p.showBg && p.showSp then
    setBackBuffer { p with sprite0 := p.sprite0 || sprite0HitAt clip p c }
      (writePixel (backBuffer p) l (c - 1) (colour p (pixelIndexAt clip p c)))
  else p

end Sys2Proof.Machine
end

