-- ==== Sys2Proof/Machine/PpuPulse.lean ====
section
/-! DEFINITION. `PpuPulse`, the PPU's step (47_ppu_background.md R341 to R344). -/

namespace Sys2Proof.Machine

/-- `VblankStart()` (R343): the flag, then the NMI if it is enabled at this pulse. -/
def vblankStart (s : State) : State :=
  let s1 := s.setPpu { s.ppu with vblank := true }
  if s1.ppu.nmiEnable then nmi s1 else s1

/-- `PreRenderClear()` (R344). -/
def preRenderClear (p : Ppu) : Ppu := { p with vblank := false, overflow := false, sprite0 := false }

/-- Part 1 of the pulse, the flag events (R341). -/
def flagEvents (l c : Nat) (s : State) : State :=
  if l = 241 ∧ c = 1 then vblankStart s
  else if l = 261 ∧ c = 1 then s.setPpu (preRenderClear s.ppu)
  else s

/-- Part 2 of the pulse: pixel, background, sprites, on a rendering line with rendering enabled (R341). -/
def renderWork (l c : Nat) (s : State) : State :=
  if renderingLine l && renderingEnabled s.ppu then
    let s1 := if l ≤ 239 ∧ 1 ≤ c ∧ c ≤ 256 then s.setPpu (outputPixel s.params.leftClip l c s.ppu) else s
    spriteStep l c (backgroundStep l c s1)
  else s

/-- Part 3 of the pulse, the frame swap at (239, 256) (R341, 48_ppu_sprites_output.md R410). -/
def frameSwap (l c : Nat) (p : Ppu) : Ppu :=
  if l = 239 ∧ c = 256 then { p with front := !p.front } else p

/-- `Advance()`, part 4 of the pulse (R342). -/
def advance (p : Ppu) : Ppu :=
  if p.scanline = 261 ∧ p.cycle = 339 ∧ p.frameOdd = true ∧ renderingEnabled p = true then
    { p with cycle := 0, scanline := 0, frameOdd := false }
  else if p.cycle = 340 then
    if p.scanline = 261 then { p with cycle := 0, scanline := 0, frameOdd := !p.frameOdd }
    else { p with cycle := 0, scanline := p.scanline + 1 }
  else { p with cycle := p.cycle + 1 }

/-- `PpuPulse()` (R341). -/
def ppuPulse (s : State) : State :=
  let l := s.ppu.scanline
  let c := s.ppu.cycle
  let s1 := renderWork l c (flagEvents l c s)
  s1.setPpu (advance (frameSwap l c s1.ppu))

end Sys2Proof.Machine
end

