-- ==== Sys2Proof/Machine/Pulse.lean ====
section
/-! DEFINITION. `CpuPulse` (40_cpu_engine.md R170) and the system iteration (00_scope.md R12). -/

namespace Sys2Proof.Machine

/-- The end of every CPU pulse: `cyc` down, `total` up (R170). -/
def tick (s : State) : State := (s.setCyc (s.cpu.cyc - 1)).setTotal (s.cpu.total + 1)

/-- `CpuPulse()` (R170). -/
def cpuPulse (s : State) : Result :=
  if s.cpu.cyc = 0 then
    match fetch s with
    | .error r => .fault r
    | .ok (i, s1) =>
      match exec i s1 with
      | .next s2 => .next (tick s2)
      | .fault r => .fault r
      | .refused r => .refused r
  else .next (tick s)

/-- The three PPU pulses of an iteration, with the host events before each (00_scope.md R12). -/
def ppuPulses (inp : HostInputs) (s : State) : State :=
  ppuPulse (hostEvents inp.beforePpu3
    (ppuPulse (hostEvents inp.beforePpu2
      (ppuPulse (hostEvents inp.beforePpu1 s)))))

/-- One system iteration with the host events `inp`: one CPU pulse, then three PPU pulses (00_scope.md R12). -/
def iteration (inp : HostInputs) (s : State) : Result :=
  match cpuPulse (hostEvents inp.beforeCpu s) with
  | .next s1 => .next (ppuPulses inp s1)
  | .fault r => .fault r
  | .refused r => .refused r

/-- An iteration in which the host does nothing. -/
def quietInputs : HostInputs := { beforeCpu := [], beforePpu1 := [], beforePpu2 := [], beforePpu3 := [] }

/-- The next iteration: its host events are the first of `inputs`, none once the list is used up (log 6). -/
def nextIteration (s : State) : Result :=
  match s.inputs with
  | [] => iteration quietInputs s
  | inp :: rest => iteration inp (s.setInputs rest)

end Sys2Proof.Machine
end

