-- ==== Sys2Proof/Machine/Step.lean ====
section
/-! DEFINITION. The step of the machine, one system iteration (00_scope.md R12; log 1). -/

namespace Sys2Proof.Machine

/-- One step: one system iteration (00_scope.md R12). -/
def step (s : State) : Host.Outcome State Fault Refusal := nextIteration s

/-- The state with the instruction whose `nbits` low bits are `w` placed where `step` fetches next, the machine
idle between instructions and no host input pending (log 13). -/
def State.withFetchWord (s : State) (nbits w : Nat) : State := placeProgram (tableBytes nbits w) s

end Sys2Proof.Machine
end

