-- ==== Sys2Proof/Machine/Boot.lean ====
section
/-! DEFINITION. The cartridge loader and power-up (70_reset_and_hazards.md R480, R481, R490 to R498). -/

namespace Sys2Proof.Machine

/-- Why a load fails (60_exceptions.md R455). -/
inductive LoadError where
  /-- Bad magic, extended format, a bank count of 0 or above 32, or a truncated image (R493). -/
  | formatError
  /-- A mapper identifier other than 0, 1, 2 (R496). -/
  | unsupportedHardware
  deriving DecidableEq, Repr

/-- Byte `n` of the image's header (R492). -/
def headerByte (img : List Byte) (n : Nat) : Byte := img.getD n 0#8

/-- The magic `4E 45 53 1A` (R492). -/
def magic : List Byte := [0x4E#8, 0x45#8, 0x53#8, 0x1A#8]

/-- The trainer's bytes in the image: 512 when byte 6 bit 2 is set (R491). -/
def trainerBytes (img : List Byte) : Nat :=
  if (headerByte img 6).getLsbD 2 then Config.trainerSize else 0

/-- `PrgBanks` (R492). -/
def headerPrgBanks (img : List Byte) : Nat := (headerByte img 4).toNat

/-- `ChrBanks` (R492). -/
def headerChrBanks (img : List Byte) : Nat := (headerByte img 5).toNat

/-- The bytes the header declares, itself included (R491). -/
def declaredSize (img : List Byte) : Nat :=
  16 + trainerBytes img + headerPrgBanks img * Config.prgBankSize + headerChrBanks img * Config.chrBankSize

/-- The format is one the loader takes (R493). -/
def formatOk (img : List Byte) : Bool :=
  decide (16 ≤ img.length) && decide (img.take 4 = magic) &&
    decide ((headerByte img 7).extractLsb' 2 2 ≠ 2#2) && decide (headerPrgBanks img ≠ 0) &&
    decide (headerPrgBanks img ≤ Config.maxBanks) && decide (headerChrBanks img ≤ Config.maxBanks) &&
    decide (declaredSize img ≤ img.length)

/-- The mapper identifier, masked to its low four bits when byte 10's low nibble is not zero (R494). -/
def mapperId (img : List Byte) : Nat :=
  let id := (headerByte img 7 &&& 0xF0#8) ||| (headerByte img 6 >>> 4)
  (if headerByte img 10 &&& 0x0F#8 = 0#8 then id else id &&& 0x0F#8).toNat

/-- The mapper of an identifier, in its power-up state (R496, R497, 10_state.md R70). -/
def mapperOf (id : Nat) : Option Mapper :=
  match id with
  | 0 => some .nrom
  | 1 => some (.mmc1 Mmc1.powerUp)
  | 2 => some (.uxrom 0#8)
  | _ => none

/-- The cartridge of an image of good format: storage in file order (R491, R495) and the header's fields
(R492). PRG-RAM and CHR-RAM get their contents at power-up. -/
def cartOf (img : List Byte) : Cart :=
  let prgStart := 16 + trainerBytes img
  let chrStart := prgStart + headerPrgBanks img * Config.prgBankSize
  { prgBanks := headerPrgBanks img
    chrBanks := headerChrBanks img
    vertical := (headerByte img 6).getLsbD 0
    hasPrgRam := (headerByte img 6).getLsbD 1
    fourScreen := (headerByte img 6).getLsbD 3
    vsUnisystem := (headerByte img 7).getLsbD 0
    playChoice := (headerByte img 7).getLsbD 1
    prgRamCode := headerByte img 8
    tvSystem := (headerByte img 9).getLsbD 0
    trainer := (img.drop 16).take (trainerBytes img)
    prgRom := Memory.ofBytes unlistedByte 0 ((img.drop prgStart).take (headerPrgBanks img * Config.prgBankSize))
    chr := Memory.ofBytes unlistedByte 0 ((img.drop chrStart).take (headerChrBanks img * Config.chrBankSize))
    prgRam := [] }

/-- `load`: the cartridge and its mapper, or the failure (R490 to R497). -/
def loadCartridge (img : List Byte) : Except LoadError (Cart × Mapper) :=
  if formatOk img then
    match mapperOf (mapperId img) with
    | some m => .ok (cartOf img, m)
    | none => .error .unsupportedHardware
  else .error .formatError

/-- `InitMem` (00_scope.md R4) with the framebuffers' contents (10_state.md R70): what every RAM holds at
power-up. -/
structure InitMem where
  ram : Memory
  vram : Memory
  oam : Memory
  pal : Memory
  prgRam : Memory
  chrRam : Memory
  fb0 : Memory
  fb1 : Memory
  deriving DecidableEq, Repr

/-- Every byte 0 (logs 3, 4). -/
def InitMem.zero : InitMem :=
  { ram := [], vram := [], oam := [], pal := [], prgRam := [], chrRam := [], fb0 := [], fb1 := [] }

/-- Cartridge storage at power-up: PRG-RAM, and CHR-RAM when there is no CHR-ROM, hold `InitMem` (R495). -/
def powerUpCart (c : Cart) (m : InitMem) : Cart :=
  { c with prgRam := m.prgRam, chr := if chrIsRam c then m.chrRam else c.chr }

/-- Power-up (R481): the power-up column of 10_state.md R70, with `PC` the word at $FFFC read through the
mapper. -/
def powerUp (c : Cart) (m : Mapper) (init : InitMem) (connected1 connected2 : Bool) (params : Params) : State :=
  let s : State :=
    { cpu := Cpu.powerUp 0#16
      ppu := Ppu.powerUp init.oam init.pal init.fb0 init.fb1
      ram := init.ram
      vram := init.vram
      cart := powerUpCart c init
      mapper := m
      pad1 := if connected1 then some Pad.powerUp else none
      pad2 := if connected2 then some Pad.powerUp else none
      params := params
      inputs := [] }
  s.setPc (rd16 s Config.resetVector).1

end Sys2Proof.Machine
end

