-- ==== Sys2Proof/Safety.lean ====
section
/-! DEFINITION. What the claims are stated in: the invariant of the machine, the places a byte is held, and what
an instruction may write (tables read off the spec, not off the meanings). -/

namespace Sys2Proof.Machine

/-- The CPU part of the invariant: `P.U == 1`, `P.B == 0` (10_state.md R71). -/
def Cpu.inv (c : Cpu) : Bool := flagU c.p && !flagB c.p

/-- The PPU part: the counters and slot counts in range (10_state.md R71), every memory canonical and of its
size, and no palette cell at an alias index (10_state.md R43). -/
def Ppu.inv (p : Ppu) : Bool :=
  decide (p.scanline ≤ Config.lastScanline) && decide (p.cycle ≤ Config.lastCycle) &&
    decide (p.secEvalCount ≤ Config.slotCount) && decide (p.secRendCount ≤ Config.slotCount) &&
    p.oam.wf unlistedByte Config.oamSize && p.pal.wf unlistedByte Config.paletteSize &&
    p.pal.all (fun c => decide (palIndex c.1 = c.1)) &&
    p.secEval.wf unlistedSecondary Config.secondarySize && p.secRend.wf unlistedSecondary Config.secondarySize &&
    p.sprLo.wf unlistedByte Config.slotCount && p.sprHi.wf unlistedByte Config.slotCount &&
    p.fb0.wf unlistedByte Config.frameBytes && p.fb1.wf unlistedByte Config.frameBytes

/-- The cartridge part: bank counts the loader admits (70_reset_and_hazards.md R493), storage canonical and of
its size (10_state.md R62). -/
def Cart.inv (c : Cart) : Bool :=
  decide (1 ≤ c.prgBanks) && decide (c.prgBanks ≤ Config.maxBanks) && decide (c.chrBanks ≤ Config.maxBanks) &&
    c.prgRom.wf unlistedByte (c.prgBanks * Config.prgBankSize) &&
    c.chr.wf unlistedByte (chrBankCount c * Config.chrBankSize) &&
    c.prgRam.wf unlistedByte Config.prgRamSize

/-- The mapper part: `wcount <= 4` (10_state.md R71). -/
def Mapper.inv : Mapper → Bool
  | .nrom => true
  | .mmc1 r => decide (r.wcount ≤ 4)
  | .uxrom _ => true

/-- The invariant every reachable state keeps (10_state.md R71). -/
def State.inv (s : State) : Bool :=
  s.cpu.inv && s.ppu.inv && s.ram.wf unlistedByte Config.ramSize && s.vram.wf unlistedByte Config.vramSize &&
    s.cart.inv && s.mapper.inv

/-- A byte of the machine's memories. -/
inductive Place where
  | ram (i : Nat)
  | vram (i : Nat)
  | oam (i : Nat)
  | pal (i : Fin 32)
  | prgRam (i : Nat)
  | chr (i : Nat)
  | prgRom (i : Nat)
  deriving DecidableEq, Repr

/-- The byte held at a place. -/
def placeByte (s : State) : Place → Byte
  | .ram i => ramRead s i
  | .vram i => vramRead s i
  | .oam i => oamRead s.ppu i
  | .pal i => palRead s.ppu i.toNat
  | .prgRam i => prgRamRead s i
  | .chr i => chrRead s i
  | .prgRom i => prgRomRead s i

/-- The places a PPU-space store at `a` writes (20_memory.md R97, R98, R113). -/
def ppuStorePlaces (s : State) (a : BitVec 14) : List Place :=
  if a.toNat ≤ 0x1FFF then (if chrIsRam s.cart then [.chr (chrCell s a.toNat)] else [])
  else [.vram (ntIndex (mirroring s) a.toNat)]

/-- The places a store to the data port writes: both names of a palette cell, or a PPU-space byte
(46_ppu_registers.md R333, 20_memory.md R103). -/
def dataPortPlaces (s : State) : List Place :=
  let a := dataPortAddr s.ppu
  if 0x3F00 ≤ a.toNat then
    ((List.finRange 32).filter fun i => palIndex i.toNat = palIndex a.toNat).map Place.pal
  else ppuStorePlaces s a

/-- The places a CPU store at `a` writes (20_memory.md R81). -/
def storePlaces (s : State) (a : Addr) : List Place :=
  match busRegion a with
  | .ram => [.ram (ramIndex a)]
  | .ppu =>
    if ppuRegIndex a = 4 then [.oam s.ppu.oamAddr.toNat]
    else if ppuRegIndex a = 7 then dataPortPlaces s
    else []
  | .oamDma => (List.range 256).map Place.oam
  | .pad1 => []
  | .pad2 => []
  | .unmapped => []
  | .mapper => if a.toNat < 0x8000 ∧ prgRamEnabled s = true then [.prgRam (a.toNat - 0x6000)] else []

/-- Everything outside the CPU is that of `u`. -/
def OutsideIs (u t : State) : Prop :=
  t.ppu = u.ppu ∧ t.ram = u.ram ∧ t.vram = u.vram ∧ t.cart = u.cart ∧ t.mapper = u.mapper ∧ t.pad1 = u.pad1 ∧
    t.pad2 = u.pad2 ∧ t.params = u.params ∧ t.inputs = u.inputs

/-- The CPU registers a program names, `PC` and `P` apart (10_state.md R20 to R23). -/
inductive Reg where
  | a
  | x
  | y
  | s
  deriving DecidableEq, Repr

/-- The value of a register. -/
def Reg.value (c : Cpu) : Reg → Byte
  | .a => c.a
  | .x => c.x
  | .y => c.y
  | .s => c.s

/-- The flags of the status word (10_state.md R25). -/
inductive Flag where
  | c
  | z
  | i
  | d
  | b
  | u
  | v
  | n
  deriving DecidableEq, Repr

/-- The value of a flag. -/
def Flag.value (p : Byte) : Flag → Bool
  | .c => flagC p
  | .z => flagZ p
  | .i => flagI p
  | .d => flagD p
  | .b => flagB p
  | .u => flagU p
  | .v => flagV p
  | .n => flagN p

/-- From `s` to `t`, every register but `regs` and every flag but `flags` keeps its value
(41_load_store_transfer.md R200). The scratch `fetched` and `addr` are read by no later instruction
(10_state.md R29) and are not spoken of. -/
def OnlyChanges (regs : List Reg) (flags : List Flag) (s t : State) : Prop :=
  (∀ r, r ∉ regs → r.value t.cpu = r.value s.cpu) ∧ (∀ f, f ∉ flags → f.value t.cpu.p = f.value s.cpu.p)

/-- `Z` and `N` are those of the result `v` (00_scope.md R6). -/
def ZNOf (v : Byte) (t : State) : Prop := flagZ t.cpu.p = decide (v.toNat = 0) ∧ flagN t.cpu.p = decide (128 ≤ v.toNat)

/-- What a meaning leaves of the counters: `cyc` is the pulses the instruction occupies, `total` is not touched
(40_cpu_engine.md R170). -/
def Pulses (n : Nat) (s t : State) : Prop := t.cpu.cyc = n ∧ t.cpu.total = s.cpu.total

/-- The instruction's first byte is `opcode`, and on state `s`, whose `PC` is past the instruction, it answers a
next state of which `P` holds. -/
def Completes (opcode : Byte) (i : Instr) (s : State) (P : State → Prop) : Prop :=
  (encode i).head? = some opcode ∧ ∃ t, exec i s = .next t ∧ P t

/-- The pulses an instruction gains when its effective address left the page of its base (40_cpu_engine.md
R187). -/
def crossPulse (base ea : Addr) : Nat := if hiByte ea = hiByte base then 0 else 1

/-- The pulses a store at `a` adds: the DMA stall of $4014 (49_dma_controllers.md R421). -/
def stallPulses (s : State) (a : Addr) : Nat :=
  if a = 0x4014#16 then (if s.cpu.total % 2 = 0 then 513 else 514) else 0

/-- A one-byte instruction of `n` pulses that changes only `regs` and `flags` of the CPU, keeps `PC`, leaves
everything outside the CPU alone, and of whose next state `P` holds. -/
def ImpliedForm (s : State) (opcode : Byte) (i : Instr) (n : Nat) (regs : List Reg) (flags : List Flag)
    (P : State → Prop) : Prop :=
  Completes opcode i s fun t =>
    P t ∧ OnlyChanges regs flags s t ∧ t.cpu.pc = s.cpu.pc ∧ OutsideIs s t ∧ Pulses n s t

/-- A claim about an instruction with an operand: `P ea m u n t` speaks of the effective address, the operand
byte, the state after the operand was read, the pulses the mode gives and the next state. -/
abbrev OperandClaim := Addr → Byte → State → Nat → State → Prop

/-- The immediate form: the operand is the byte after the opcode (40_cpu_engine.md R175). -/
def ImmForm (s : State) (form : Byte × (Byte → Instr)) (P : OperandClaim) : Prop :=
  ∀ d, Completes form.1 (form.2 d) s (P (s.cpu.pc - 1#16) d s 2)

/-- A form that reads memory at the effective address `ea`: the operand is the byte there and the read has its
side effects (40_cpu_engine.md R186). -/
def MemForm {α : Type} (s : State) (form : Byte × (α → Instr)) (ea : α → Addr) (pulses : α → Nat)
    (P : OperandClaim) : Prop :=
  ∀ o, Completes form.1 (form.2 o) s (P (ea o) (busPeek s (ea o)) (busTouch s (ea o)) (pulses o))

/-- The eight forms of the accumulator read instructions in the order of their rules: IMM, ZP0, ZPX, ABS, ABX, ABY,
IZX, IZY (30_encoding.md R145). -/
def EightForms (s : State) (imm zp0 zpx : Byte × (Byte → Instr)) (abs abx aby : Byte × (Addr → Instr))
    (izx izy : Byte × (Byte → Instr)) (P : OperandClaim) : Prop :=
  ImmForm s imm P ∧
  MemForm s zp0 eaZp0 (fun _ => 3) P ∧
  MemForm s zpx (eaZpx s) (fun _ => 4) P ∧
  MemForm s abs eaAbs (fun _ => 4) P ∧
  MemForm s abx (eaAbx s) (fun a => 4 + crossPulse a (eaAbx s a)) P ∧
  MemForm s aby (eaAby s) (fun a => 4 + crossPulse a (eaAby s a)) P ∧
  MemForm s izx (eaIzx s) (fun _ => 6) P ∧
  MemForm s izy (eaIzy s) (fun z => 5 + crossPulse (zeroPageWord s z) (eaIzy s z)) P

/-- The four forms of the read-modify-write instructions: ZP0, ZPX, ABS, ABX (30_encoding.md R145). -/
def ModifyForms (s : State) (zp0 zpx : Byte × (Byte → Instr)) (abs abx : Byte × (Addr → Instr))
    (P : OperandClaim) : Prop :=
  MemForm s zp0 eaZp0 (fun _ => 5) P ∧
  MemForm s zpx (eaZpx s) (fun _ => 6) P ∧
  MemForm s abs eaAbs (fun _ => 6) P ∧
  MemForm s abx (eaAbx s) (fun _ => 7) P

/-- The outcome of a read instruction: `R` of the operand and the next state, only `regs` and `flags` changed, and
outside the CPU only what the operand read itself did. -/
def ReadOutcome (s : State) (regs : List Reg) (flags : List Flag) (R : Byte → State → Prop) : OperandClaim :=
  fun _ m u n t => R m t ∧ OnlyChanges regs flags s t ∧ t.cpu.pc = s.cpu.pc ∧ OutsideIs u t ∧ Pulses n s t

/-- The outcome of a read-modify-write instruction: the byte `f m` is written where the operand `m` was read, by one
bus write after the read, no register changes and only `flags` do, of which `R` holds. -/
def ModifyOutcome (s : State) (f : Byte → Byte) (flags : List Flag) (R : Byte → State → Prop) : OperandClaim :=
  fun ea m u n t => R m t ∧ OnlyChanges [] flags s t ∧ t.cpu.pc = s.cpu.pc ∧ OutsideIs (busWrite u ea (f m)) t ∧
    Pulses (n + stallPulses s ea) s t

/-- A store of `v` at `ea`: one bus write, no operand read, no register or flag changed, the pulses `n` of the form
whatever the page, and those of a DMA (41_load_store_transfer.md R204). -/
def StoreForm {α : Type} (s : State) (form : Byte × (α → Instr)) (ea : α → Addr) (n : Nat) (v : Byte) : Prop :=
  ∀ o, Completes form.1 (form.2 o) s fun t =>
    OnlyChanges [] [] s t ∧ t.cpu.pc = s.cpu.pc ∧ OutsideIs (busWrite s (ea o) v) t ∧
      Pulses (n + stallPulses s (ea o)) s t

/-- A branch with condition `cond`: 2 pulses and `PC` kept when it is not taken; taken, `PC` is the target and there
are 3 pulses, 4 when the target's page is not that of the next instruction (44_control_flow.md R265). -/
def BranchForm (s : State) (opcode : Byte) (branch : Byte → Instr) (cond : Bool) : Prop :=
  ∀ r, Completes opcode (branch r) s fun t =>
    OnlyChanges [] [] s t ∧ OutsideIs s t ∧
      (cond = false → t.cpu.pc = s.cpu.pc ∧ Pulses 2 s t) ∧
      (cond = true → t.cpu.pc = s.cpu.pc + sext16 r ∧
        Pulses (3 + crossPulse s.cpu.pc (s.cpu.pc + sext16 r)) s t)

/-- The 56 mnemonics (30_encoding.md R145). -/
inductive Mnemonic where
  | adc
  | and
  | asl
  | bcc
  | bcs
  | beq
  | bit
  | bmi
  | bne
  | bpl
  | brk
  | bvc
  | bvs
  | clc
  | cld
  | cli
  | clv
  | cmp
  | cpx
  | cpy
  | dec
  | dex
  | dey
  | eor
  | inc
  | inx
  | iny
  | jmp
  | jsr
  | lda
  | ldx
  | ldy
  | lsr
  | nop
  | ora
  | pha
  | php
  | pla
  | plp
  | rol
  | ror
  | rti
  | rts
  | sbc
  | sec
  | sed
  | sei
  | sta
  | stx
  | sty
  | tax
  | tay
  | tsx
  | txa
  | txs
  | tya
  deriving DecidableEq, Repr

/-- The mnemonic of an instruction (30_encoding.md R145). -/
def mnemonicOf : Instr → Mnemonic
  | .adcIzx _ => .adc
  | .adcZp0 _ => .adc
  | .adcImm _ => .adc
  | .adcAbs _ => .adc
  | .adcIzy _ => .adc
  | .adcZpx _ => .adc
  | .adcAby _ => .adc
  | .adcAbx _ => .adc
  | .andIzx _ => .and
  | .andZp0 _ => .and
  | .andImm _ => .and
  | .andAbs _ => .and
  | .andIzy _ => .and
  | .andZpx _ => .and
  | .andAby _ => .and
  | .andAbx _ => .and
  | .aslZp0 _ => .asl
  | .aslAcc => .asl
  | .aslAbs _ => .asl
  | .aslZpx _ => .asl
  | .aslAbx _ => .asl
  | .bcc _ => .bcc
  | .bcs _ => .bcs
  | .beq _ => .beq
  | .bitZp0 _ => .bit
  | .bitAbs _ => .bit
  | .bmi _ => .bmi
  | .bne _ => .bne
  | .bpl _ => .bpl
  | .brk => .brk
  | .bvc _ => .bvc
  | .bvs _ => .bvs
  | .clc => .clc
  | .cld => .cld
  | .cli => .cli
  | .clv => .clv
  | .cmpIzx _ => .cmp
  | .cmpZp0 _ => .cmp
  | .cmpImm _ => .cmp
  | .cmpAbs _ => .cmp
  | .cmpIzy _ => .cmp
  | .cmpZpx _ => .cmp
  | .cmpAby _ => .cmp
  | .cmpAbx _ => .cmp
  | .cpxImm _ => .cpx
  | .cpxZp0 _ => .cpx
  | .cpxAbs _ => .cpx
  | .cpyImm _ => .cpy
  | .cpyZp0 _ => .cpy
  | .cpyAbs _ => .cpy
  | .decZp0 _ => .dec
  | .decAbs _ => .dec
  | .decZpx _ => .dec
  | .decAbx _ => .dec
  | .dex => .dex
  | .dey => .dey
  | .eorIzx _ => .eor
  | .eorZp0 _ => .eor
  | .eorImm _ => .eor
  | .eorAbs _ => .eor
  | .eorIzy _ => .eor
  | .eorZpx _ => .eor
  | .eorAby _ => .eor
  | .eorAbx _ => .eor
  | .incZp0 _ => .inc
  | .incAbs _ => .inc
  | .incZpx _ => .inc
  | .incAbx _ => .inc
  | .inx => .inx
  | .iny => .iny
  | .jmpAbs _ => .jmp
  | .jmpInd _ => .jmp
  | .jsr _ => .jsr
  | .ldaIzx _ => .lda
  | .ldaZp0 _ => .lda
  | .ldaImm _ => .lda
  | .ldaAbs _ => .lda
  | .ldaIzy _ => .lda
  | .ldaZpx _ => .lda
  | .ldaAby _ => .lda
  | .ldaAbx _ => .lda
  | .ldxImm _ => .ldx
  | .ldxZp0 _ => .ldx
  | .ldxAbs _ => .ldx
  | .ldxZpy _ => .ldx
  | .ldxAby _ => .ldx
  | .ldyImm _ => .ldy
  | .ldyZp0 _ => .ldy
  | .ldyAbs _ => .ldy
  | .ldyZpx _ => .ldy
  | .ldyAbx _ => .ldy
  | .lsrZp0 _ => .lsr
  | .lsrAcc => .lsr
  | .lsrAbs _ => .lsr
  | .lsrZpx _ => .lsr
  | .lsrAbx _ => .lsr
  | .nop => .nop
  | .oraIzx _ => .ora
  | .oraZp0 _ => .ora
  | .oraImm _ => .ora
  | .oraAbs _ => .ora
  | .oraIzy _ => .ora
  | .oraZpx _ => .ora
  | .oraAby _ => .ora
  | .oraAbx _ => .ora
  | .pha => .pha
  | .php => .php
  | .pla => .pla
  | .plp => .plp
  | .rolZp0 _ => .rol
  | .rolAcc => .rol
  | .rolAbs _ => .rol
  | .rolZpx _ => .rol
  | .rolAbx _ => .rol
  | .rorZp0 _ => .ror
  | .rorAcc => .ror
  | .rorAbs _ => .ror
  | .rorZpx _ => .ror
  | .rorAbx _ => .ror
  | .rti => .rti
  | .rts => .rts
  | .sbcIzx _ => .sbc
  | .sbcZp0 _ => .sbc
  | .sbcImm _ => .sbc
  | .sbcAbs _ => .sbc
  | .sbcIzy _ => .sbc
  | .sbcZpx _ => .sbc
  | .sbcAby _ => .sbc
  | .sbcAbx _ => .sbc
  | .sec => .sec
  | .sed => .sed
  | .sei => .sei
  | .staIzx _ => .sta
  | .staZp0 _ => .sta
  | .staAbs _ => .sta
  | .staIzy _ => .sta
  | .staZpx _ => .sta
  | .staAby _ => .sta
  | .staAbx _ => .sta
  | .stxZp0 _ => .stx
  | .stxAbs _ => .stx
  | .stxZpy _ => .stx
  | .styZp0 _ => .sty
  | .styAbs _ => .sty
  | .styZpx _ => .sty
  | .tax => .tax
  | .tay => .tay
  | .tsx => .tsx
  | .txa => .txa
  | .txs => .txs
  | .tya => .tya

/-- What an interrupt entry at `vector` leaves (60_exceptions.md R445, R449): the pushes of `PC`, high byte first, and
of the status with `B` clear and `U` set, `P.I` set and no other flag changed, `PC` the word at the vector, and the seven
cycles of the charge. -/
def EntryOutcome (vector : Addr) (s t : State) : Prop :=
  t.cpu.pc = word16 (busPeek s (vector + 1#16)) (busPeek s vector) ∧ t.cpu.s = s.cpu.s - 3#8 ∧
    flagI t.cpu.p = true ∧ OnlyChanges [.s] [.i] s t ∧ t.cpu.total = s.cpu.total ∧
    (s.params.intCharge = .assign → t.cpu.cyc = 7) ∧ (s.params.intCharge = .add → t.cpu.cyc = s.cpu.cyc + 7) ∧
    OutsideIs (ramWrite (ramWrite (ramWrite s (256 + s.cpu.s.toNat) (hiByte s.cpu.pc))
      (256 + (s.cpu.s - 1#8).toNat) (loByte s.cpu.pc))
      (256 + (s.cpu.s - 2#8).toNat) ((s.cpu.p &&& 0xCF#8) ||| 0x20#8)) t

/-- Who may write each flag (10_state.md R26). `B` and `U` have no writer: inside the register they are constants
(10_state.md R27). -/
def flagWriters : Flag → List Mnemonic
  | .c => [.adc, .sbc, .cmp, .cpx, .cpy, .asl, .lsr, .rol, .ror, .clc, .sec, .plp, .rti]
  | .z => [.lda, .ldx, .ldy, .tax, .tay, .txa, .tya, .tsx, .pla, .adc, .sbc, .and, .ora, .eor, .cmp, .cpx, .cpy,
      .bit, .inc, .dec, .inx, .iny, .dex, .dey, .asl, .lsr, .rol, .ror, .plp, .rti]
  | .n => [.lda, .ldx, .ldy, .tax, .tay, .txa, .tya, .tsx, .pla, .adc, .sbc, .and, .ora, .eor, .cmp, .cpx, .cpy,
      .bit, .inc, .dec, .inx, .iny, .dex, .dey, .asl, .lsr, .rol, .ror, .plp, .rti]
  | .v => [.adc, .sbc, .bit, .clv, .plp, .rti]
  | .i => [.sei, .cli, .plp, .rti, .brk]
  | .d => [.sed, .cld, .plp, .rti]
  | .b => []
  | .u => []

/-- Who may write each register (10_state.md R20 to R23 and the rules of files 41 to 45). -/
def regWriters : Reg → List Mnemonic
  | .a => [.lda, .txa, .tya, .adc, .sbc, .and, .ora, .eor, .asl, .lsr, .rol, .ror, .pla]
  | .x => [.ldx, .tax, .tsx, .inx, .dex]
  | .y => [.ldy, .tay, .iny, .dey]
  | .s => [.txs, .pha, .pla, .php, .plp, .jsr, .rts, .rti, .brk]

/-- Who may write `PC` besides the fetch (10_state.md R24). -/
def pcWriters : List Mnemonic :=
  [.jmp, .jsr, .rts, .rti, .brk, .bcc, .bcs, .beq, .bne, .bmi, .bpl, .bvc, .bvs]

/-- The places the stack bytes of `n` pushes from `S` lie in: page 1, downward, wrapping inside it
(60_exceptions.md R440). -/
def pushPlaces (s : State) (n : Nat) : List Place :=
  (List.range n).map fun k => .ram (256 + (s.cpu.s - BitVec.ofNat 8 k).toNat)

/-- The places an instruction stores to, computed from the state it runs on: a store at its effective address, a
read-modify-write at the same address after its operand was read (which may have moved `v`), the pushes; nothing for
every other form. -/
def storedPlaces (i : Instr) (s : State) : List Place :=
  match i with
  | .staIzx z => storePlaces s (eaIzx s z)
  | .staZp0 z => storePlaces s (eaZp0 z)
  | .staAbs a => storePlaces s (eaAbs a)
  | .staIzy z => storePlaces s (eaIzy s z)
  | .staZpx z => storePlaces s (eaZpx s z)
  | .staAby a => storePlaces s (eaAby s a)
  | .staAbx a => storePlaces s (eaAbx s a)
  | .stxZp0 z => storePlaces s (eaZp0 z)
  | .stxAbs a => storePlaces s (eaAbs a)
  | .stxZpy z => storePlaces s (eaZpy s z)
  | .styZp0 z => storePlaces s (eaZp0 z)
  | .styAbs a => storePlaces s (eaAbs a)
  | .styZpx z => storePlaces s (eaZpx s z)
  | .incZp0 z => storePlaces (busTouch s (eaZp0 z)) (eaZp0 z)
  | .incAbs a => storePlaces (busTouch s (eaAbs a)) (eaAbs a)
  | .incZpx z => storePlaces (busTouch s (eaZpx s z)) (eaZpx s z)
  | .incAbx a => storePlaces (busTouch s (eaAbx s a)) (eaAbx s a)
  | .decZp0 z => storePlaces (busTouch s (eaZp0 z)) (eaZp0 z)
  | .decAbs a => storePlaces (busTouch s (eaAbs a)) (eaAbs a)
  | .decZpx z => storePlaces (busTouch s (eaZpx s z)) (eaZpx s z)
  | .decAbx a => storePlaces (busTouch s (eaAbx s a)) (eaAbx s a)
  | .aslZp0 z => storePlaces (busTouch s (eaZp0 z)) (eaZp0 z)
  | .aslAbs a => storePlaces (busTouch s (eaAbs a)) (eaAbs a)
  | .aslZpx z => storePlaces (busTouch s (eaZpx s z)) (eaZpx s z)
  | .aslAbx a => storePlaces (busTouch s (eaAbx s a)) (eaAbx s a)
  | .lsrZp0 z => storePlaces (busTouch s (eaZp0 z)) (eaZp0 z)
  | .lsrAbs a => storePlaces (busTouch s (eaAbs a)) (eaAbs a)
  | .lsrZpx z => storePlaces (busTouch s (eaZpx s z)) (eaZpx s z)
  | .lsrAbx a => storePlaces (busTouch s (eaAbx s a)) (eaAbx s a)
  | .rolZp0 z => storePlaces (busTouch s (eaZp0 z)) (eaZp0 z)
  | .rolAbs a => storePlaces (busTouch s (eaAbs a)) (eaAbs a)
  | .rolZpx z => storePlaces (busTouch s (eaZpx s z)) (eaZpx s z)
  | .rolAbx a => storePlaces (busTouch s (eaAbx s a)) (eaAbx s a)
  | .rorZp0 z => storePlaces (busTouch s (eaZp0 z)) (eaZp0 z)
  | .rorAbs a => storePlaces (busTouch s (eaAbs a)) (eaAbs a)
  | .rorZpx z => storePlaces (busTouch s (eaZpx s z)) (eaZpx s z)
  | .rorAbx a => storePlaces (busTouch s (eaAbx s a)) (eaAbx s a)
  | .jsr _ => pushPlaces s 2
  | .brk => pushPlaces s 3
  | .pha => pushPlaces s 1
  | .php => pushPlaces s 1
  | .ldaIzx _ | .ldaZp0 _ | .ldaImm _ | .ldaAbs _ | .ldaIzy _ | .ldaZpx _ | .ldaAby _ | .ldaAbx _ | .ldxImm _
  | .ldxZp0 _ | .ldxAbs _ | .ldxZpy _ | .ldxAby _ | .ldyImm _ | .ldyZp0 _ | .ldyAbs _ | .ldyZpx _ | .ldyAbx _
  | .tax | .tay | .txa | .tya | .tsx | .txs | .adcIzx _ | .adcZp0 _ | .adcImm _ | .adcAbs _ | .adcIzy _
  | .adcZpx _ | .adcAby _ | .adcAbx _ | .sbcIzx _ | .sbcZp0 _ | .sbcImm _ | .sbcAbs _ | .sbcIzy _ | .sbcZpx _
  | .sbcAby _ | .sbcAbx _ | .andIzx _ | .andZp0 _ | .andImm _ | .andAbs _ | .andIzy _ | .andZpx _ | .andAby _
  | .andAbx _ | .oraIzx _ | .oraZp0 _ | .oraImm _ | .oraAbs _ | .oraIzy _ | .oraZpx _ | .oraAby _ | .oraAbx _
  | .eorIzx _ | .eorZp0 _ | .eorImm _ | .eorAbs _ | .eorIzy _ | .eorZpx _ | .eorAby _ | .eorAbx _ | .cmpIzx _
  | .cmpZp0 _ | .cmpImm _ | .cmpAbs _ | .cmpIzy _ | .cmpZpx _ | .cmpAby _ | .cmpAbx _ | .cpxImm _ | .cpxZp0 _
  | .cpxAbs _ | .cpyImm _ | .cpyZp0 _ | .cpyAbs _ | .bitZp0 _ | .bitAbs _ | .inx | .iny | .dex | .dey | .aslAcc
  | .lsrAcc | .rolAcc | .rorAcc | .jmpAbs _ | .jmpInd _ | .rts | .rti | .bcc _ | .bcs _ | .beq _ | .bne _
  | .bmi _ | .bpl _ | .bvc _ | .bvs _ | .pla | .plp | .clc | .sec | .cli | .sei | .clv | .cld | .sed | .nop => []

end Sys2Proof.Machine
end

