-- ==== Sys2Proof/Certificates/Slice0/Obligations.lean ====
section
/-! DEFINITION. The statements for the provers. Each says which rule of spec/ it formalises; what its hypotheses
assume is met by a named witness of Sys2Proof/Tests/Slice0.lean. -/

open Sys2Proof Sys2Proof.Machine

/-! ### Encoding and the step -/

/-- 30_encoding.md R140, R141, R143, R145: the decoder reads every instruction back from its bytes, with every value of
every operand, and leaves exactly the bytes after it. -/
def Obligations.DecodeInvertsEncode : Prop :=
  ∀ (i : Instr) (rest : List Byte), decode (encode i ++ rest) = .ok (i, rest)

/-- 30_encoding.md R140, R147: every byte string the decoder takes is the encoding of what it answers, followed by what
it leaves: no bytes have a second meaning. -/
def Obligations.EncodeInvertsDecode : Prop :=
  ∀ (bs : List Byte) (i : Instr) (rest : List Byte), decode bs = .ok (i, rest) → bs = encode i ++ rest

/-- 30_encoding.md R150: a byte has no row exactly when it is in the list of the rule, and then the decoder refuses it
by name whatever follows; every other byte, with two bytes after it, decodes. -/
def Obligations.IllegalOpcodesAreTheList : Prop :=
  illegalOpcodes.length = 105 ∧
  ∀ (b : Byte), (b.toNat ∈ illegalOpcodes → ∀ rest, decode (b :: rest) = .error (.illegalOpcode b)) ∧
    (b.toNat ∉ illegalOpcodes → ∀ (x y : Byte) (rest : List Byte),
      ∃ i r, decode (b :: x :: y :: rest) = .ok (i, r) ∧ (encode i).head? = some b)

/-- 30_encoding.md R145 and the examples of 40_cpu_engine.md R175 to R185: words written out from the spec decode to the
instructions they stand for. -/
def Obligations.SampleEncodings : Prop :=
  decode [0xA9#8, 0x10#8] = .ok (.ldaImm 0x10#8, []) ∧
  decode [0xA5#8, 0x80#8] = .ok (.ldaZp0 0x80#8, []) ∧
  decode [0xAD#8, 0x34#8, 0x12#8] = .ok (.ldaAbs 0x1234#16, []) ∧
  decode [0xBD#8, 0xF0#8, 0x12#8] = .ok (.ldaAbx 0x12F0#16, []) ∧
  decode [0x6C#8, 0xFF#8, 0x02#8] = .ok (.jmpInd 0x02FF#16, []) ∧
  decode [0xD0#8, 0xFE#8] = .ok (.bne 0xFE#8, []) ∧
  decode [0x0A#8] = .ok (.aslAcc, []) ∧
  decode [0x00#8] = .ok (.brk, []) ∧
  decode [0x8D#8, 0x14#8, 0x40#8] = .ok (.staAbs 0x4014#16, [])

/-- 40_cpu_engine.md R170, 00_scope.md R12: a step of an idle machine, at which the host does nothing, runs the
instruction whose bytes the fetch reads at `PC` (each byte read after the side effects of the one before), then ends the
CPU pulse and makes the three PPU pulses. Where the bytes stand in RAM or behind the mapper, the fetch reads what lies
there and only moves `PC`. -/
def Obligations.StepRunsDecodedInstruction : Prop :=
  (∀ (s s1 : State) (i : Instr), s.inputs = [] → s.cpu.cyc = 0 →
    fetchBytes (encode i).length s = (encode i, s1) →
    ∃ t, exec i s1 = .next t ∧ step s = .next (ppuPulses quietInputs (tick t))) ∧
  (∀ (s : State) (n : Nat),
    (∀ k, k < n → busRegion (s.cpu.pc + BitVec.ofNat 16 k) = .ram ∨ busRegion (s.cpu.pc + BitVec.ofNat 16 k) = .mapper) →
    fetchBytes n s =
      ((List.range n).map fun k => busPeek s (s.cpu.pc + BitVec.ofNat 16 k), s.setPc (s.cpu.pc + BitVec.ofNat 16 n)))

/-- 30_encoding.md R150, 60_exceptions.md R451: an idle machine that fetches a byte with no row stops with that byte and
its address. -/
def Obligations.IllegalOpcodeStopsTheStep : Prop :=
  ∀ (s : State), s.inputs = [] → s.cpu.cyc = 0 → (busPeek s s.cpu.pc).toNat ∈ illegalOpcodes →
    step s = .fault (.illegalOpcode (busPeek s s.cpu.pc) s.cpu.pc)

/-- 40_cpu_engine.md R170, consequence (a): a pulse in the middle of an instruction changes only `cyc` and `total`, and
no CPU pulse leaves `total` other than one higher. -/
def Obligations.MidInstructionPulseOnlyCounts : Prop :=
  (∀ (s : State), s.cpu.cyc ≠ 0 → ∃ t, cpuPulse s = .next t ∧ OutsideIs s t ∧
    t.cpu = { s.cpu with cyc := s.cpu.cyc - 1, total := s.cpu.total + 1 }) ∧
  (∀ (s t : State), cpuPulse s = .next t → t.cpu.total = s.cpu.total + 1)

/-- 00_scope.md R12: one step is the host events before the CPU pulse, the CPU pulse, then three times the host events
before a PPU pulse and the PPU pulse. Which host events these are is the head of the model's own list `inputs`, used up
by the step; when the list is empty the host does nothing (log 6). A CPU pulse that stops stops the step. -/
def Obligations.IterationOrder : Prop :=
  ∀ (s : State) (inp : HostInputs) (rest : List HostInputs), s.inputs = inp :: rest ∨ (s.inputs = [] ∧
      inp = { beforeCpu := [], beforePpu1 := [], beforePpu2 := [], beforePpu3 := [] } ∧ rest = []) →
    (∀ t, cpuPulse (hostEvents inp.beforeCpu (s.setInputs rest)) = .next t →
      step s = .next (ppuPulse (hostEvents inp.beforePpu3 (ppuPulse (hostEvents inp.beforePpu2
        (ppuPulse (hostEvents inp.beforePpu1 t))))))) ∧
    (∀ f, cpuPulse (hostEvents inp.beforeCpu (s.setInputs rest)) = .fault f → step s = .fault f)

/-- 40_cpu_engine.md R170 (d), 41_load_store_transfer.md R200 ("none of these instructions can raise anything"): every
instruction, on every state, completes; it occupies at least two pulses; the pulse counter, the launch parameters and the
host's inputs are not touched. -/
def Obligations.EveryInstructionCompletes : Prop :=
  ∀ (i : Instr) (s : State), ∃ t, exec i s = .next t ∧ 2 ≤ t.cpu.cyc ∧ t.cpu.total = s.cpu.total ∧
    t.params = s.params ∧ t.inputs = s.inputs

/-! ### Load, store, transfer (41_load_store_transfer.md) -/

/-- R201, R202, R203: the loads. -/
def Obligations.LoadResults : Prop :=
  ∀ (s : State),
    (let P := ReadOutcome s [.a] [.z, .n] fun m t => t.cpu.a = m ∧ ZNOf m t
     EightForms s (0xA9#8, .ldaImm) (0xA5#8, .ldaZp0) (0xB5#8, .ldaZpx) (0xAD#8, .ldaAbs) (0xBD#8, .ldaAbx)
       (0xB9#8, .ldaAby) (0xA1#8, .ldaIzx) (0xB1#8, .ldaIzy) P) ∧
    (let P := ReadOutcome s [.x] [.z, .n] fun m t => t.cpu.x = m ∧ ZNOf m t
     ImmForm s (0xA2#8, .ldxImm) P ∧ MemForm s (0xA6#8, .ldxZp0) eaZp0 (fun _ => 3) P ∧
       MemForm s (0xB6#8, .ldxZpy) (eaZpy s) (fun _ => 4) P ∧ MemForm s (0xAE#8, .ldxAbs) eaAbs (fun _ => 4) P ∧
       MemForm s (0xBE#8, .ldxAby) (eaAby s) (fun a => 4 + crossPulse a (eaAby s a)) P) ∧
    (let P := ReadOutcome s [.y] [.z, .n] fun m t => t.cpu.y = m ∧ ZNOf m t
     ImmForm s (0xA0#8, .ldyImm) P ∧ MemForm s (0xA4#8, .ldyZp0) eaZp0 (fun _ => 3) P ∧
       MemForm s (0xB4#8, .ldyZpx) (eaZpx s) (fun _ => 4) P ∧ MemForm s (0xAC#8, .ldyAbs) eaAbs (fun _ => 4) P ∧
       MemForm s (0xBC#8, .ldyAbx) (eaAbx s) (fun a => 4 + crossPulse a (eaAbx s a)) P)

/-- R204, R205, R206: the stores. -/
def Obligations.StoreResults : Prop :=
  ∀ (s : State),
    StoreForm s (0x85#8, .staZp0) eaZp0 3 s.cpu.a ∧ StoreForm s (0x95#8, .staZpx) (eaZpx s) 4 s.cpu.a ∧
    StoreForm s (0x8D#8, .staAbs) eaAbs 4 s.cpu.a ∧ StoreForm s (0x9D#8, .staAbx) (eaAbx s) 5 s.cpu.a ∧
    StoreForm s (0x99#8, .staAby) (eaAby s) 5 s.cpu.a ∧ StoreForm s (0x81#8, .staIzx) (eaIzx s) 6 s.cpu.a ∧
    StoreForm s (0x91#8, .staIzy) (eaIzy s) 6 s.cpu.a ∧
    StoreForm s (0x86#8, .stxZp0) eaZp0 3 s.cpu.x ∧ StoreForm s (0x96#8, .stxZpy) (eaZpy s) 4 s.cpu.x ∧
    StoreForm s (0x8E#8, .stxAbs) eaAbs 4 s.cpu.x ∧
    StoreForm s (0x84#8, .styZp0) eaZp0 3 s.cpu.y ∧ StoreForm s (0x94#8, .styZpx) (eaZpx s) 4 s.cpu.y ∧
    StoreForm s (0x8C#8, .styAbs) eaAbs 4 s.cpu.y

/-- R207 to R212: the transfers; `TXS` alone writes no flag. -/
def Obligations.TransferResults : Prop :=
  ∀ (s : State),
    ImpliedForm s 0xAA#8 .tax 2 [.x] [.z, .n] (fun t => t.cpu.x = s.cpu.a ∧ ZNOf s.cpu.a t) ∧
    ImpliedForm s 0xA8#8 .tay 2 [.y] [.z, .n] (fun t => t.cpu.y = s.cpu.a ∧ ZNOf s.cpu.a t) ∧
    ImpliedForm s 0x8A#8 .txa 2 [.a] [.z, .n] (fun t => t.cpu.a = s.cpu.x ∧ ZNOf s.cpu.x t) ∧
    ImpliedForm s 0x98#8 .tya 2 [.a] [.z, .n] (fun t => t.cpu.a = s.cpu.y ∧ ZNOf s.cpu.y t) ∧
    ImpliedForm s 0xBA#8 .tsx 2 [.x] [.z, .n] (fun t => t.cpu.x = s.cpu.s ∧ ZNOf s.cpu.s t) ∧
    ImpliedForm s 0x9A#8 .txs 2 [.s] [] (fun t => t.cpu.s = s.cpu.x)

/-! ### Arithmetic and logic (42_arith_logic.md) -/

/-- R221: `ADC`. The sum is taken in the naturals; `V` is set when the operands agree in sign and the result does
not. `D` is no input. -/
def Obligations.AdcResults : Prop :=
  ∀ (s : State),
    EightForms s (0x69#8, .adcImm) (0x65#8, .adcZp0) (0x75#8, .adcZpx) (0x6D#8, .adcAbs) (0x7D#8, .adcAbx)
      (0x79#8, .adcAby) (0x61#8, .adcIzx) (0x71#8, .adcIzy)
      (ReadOutcome s [.a] [.c, .v, .z, .n] fun m t =>
        let sum := s.cpu.a.toNat + m.toNat + (if flagC s.cpu.p then 1 else 0)
        t.cpu.a = BitVec.ofNat 8 sum ∧ flagC t.cpu.p = decide (256 ≤ sum) ∧
          flagV t.cpu.p = (s.cpu.a.msb == m.msb && s.cpu.a.msb != t.cpu.a.msb) ∧ ZNOf t.cpu.a t)

/-- R222: `SBC`. The result is `A - M - (1 - C)`; `C` is 1 when no borrow was needed; `V` is set when the operands
differ in sign and the result's sign is not that of `A`. -/
def Obligations.SbcResults : Prop :=
  ∀ (s : State),
    EightForms s (0xE9#8, .sbcImm) (0xE5#8, .sbcZp0) (0xF5#8, .sbcZpx) (0xED#8, .sbcAbs) (0xFD#8, .sbcAbx)
      (0xF9#8, .sbcAby) (0xE1#8, .sbcIzx) (0xF1#8, .sbcIzy)
      (ReadOutcome s [.a] [.c, .v, .z, .n] fun m t =>
        let borrow := if flagC s.cpu.p then 0 else 1
        t.cpu.a = s.cpu.a - m - BitVec.ofNat 8 borrow ∧ flagC t.cpu.p = decide (m.toNat + borrow ≤ s.cpu.a.toNat) ∧
          flagV t.cpu.p = (s.cpu.a.msb != m.msb && s.cpu.a.msb != t.cpu.a.msb) ∧ ZNOf t.cpu.a t)

/-- R223, R224, R225: `AND`, `ORA`, `EOR`. -/
def Obligations.LogicResults : Prop :=
  ∀ (s : State),
    EightForms s (0x29#8, .andImm) (0x25#8, .andZp0) (0x35#8, .andZpx) (0x2D#8, .andAbs) (0x3D#8, .andAbx)
      (0x39#8, .andAby) (0x21#8, .andIzx) (0x31#8, .andIzy)
      (ReadOutcome s [.a] [.z, .n] fun m t => t.cpu.a = s.cpu.a &&& m ∧ ZNOf (s.cpu.a &&& m) t) ∧
    EightForms s (0x09#8, .oraImm) (0x05#8, .oraZp0) (0x15#8, .oraZpx) (0x0D#8, .oraAbs) (0x1D#8, .oraAbx)
      (0x19#8, .oraAby) (0x01#8, .oraIzx) (0x11#8, .oraIzy)
      (ReadOutcome s [.a] [.z, .n] fun m t => t.cpu.a = s.cpu.a ||| m ∧ ZNOf (s.cpu.a ||| m) t) ∧
    EightForms s (0x49#8, .eorImm) (0x45#8, .eorZp0) (0x55#8, .eorZpx) (0x4D#8, .eorAbs) (0x5D#8, .eorAbx)
      (0x59#8, .eorAby) (0x41#8, .eorIzx) (0x51#8, .eorIzy)
      (ReadOutcome s [.a] [.z, .n] fun m t => t.cpu.a = s.cpu.a ^^^ m ∧ ZNOf (s.cpu.a ^^^ m) t)

/-- R226 to R229: `CMP`, `CPX`, `CPY`: the difference is not stored, `V` is kept; `BIT`: `N` and `V` from the operand, `Z`
from the and. -/
def Obligations.CompareAndBitResults : Prop :=
  ∀ (s : State),
    (let P := fun r => ReadOutcome s [] [.c, .z, .n] fun m t =>
       flagC t.cpu.p = decide (m.toNat ≤ r.toNat) ∧ ZNOf (r - m) t
     EightForms s (0xC9#8, .cmpImm) (0xC5#8, .cmpZp0) (0xD5#8, .cmpZpx) (0xCD#8, .cmpAbs) (0xDD#8, .cmpAbx)
       (0xD9#8, .cmpAby) (0xC1#8, .cmpIzx) (0xD1#8, .cmpIzy) (P s.cpu.a) ∧
     ImmForm s (0xE0#8, .cpxImm) (P s.cpu.x) ∧ MemForm s (0xE4#8, .cpxZp0) eaZp0 (fun _ => 3) (P s.cpu.x) ∧
     MemForm s (0xEC#8, .cpxAbs) eaAbs (fun _ => 4) (P s.cpu.x) ∧
     ImmForm s (0xC0#8, .cpyImm) (P s.cpu.y) ∧ MemForm s (0xC4#8, .cpyZp0) eaZp0 (fun _ => 3) (P s.cpu.y) ∧
     MemForm s (0xCC#8, .cpyAbs) eaAbs (fun _ => 4) (P s.cpu.y)) ∧
    (let P := ReadOutcome s [] [.z, .n, .v] fun m t =>
       flagZ t.cpu.p = decide (s.cpu.a &&& m = 0#8) ∧ flagN t.cpu.p = m.getLsbD 7 ∧ flagV t.cpu.p = m.getLsbD 6
     MemForm s (0x24#8, .bitZp0) eaZp0 (fun _ => 3) P ∧ MemForm s (0x2C#8, .bitAbs) eaAbs (fun _ => 4) P)

/-- R230 to R235: `INC` and `DEC`: one read, one write of the byte one higher or lower, modulo 256; `INX`, `INY`, `DEX`,
`DEY`, modulo 256. -/
def Obligations.IncrementResults : Prop :=
  ∀ (s : State),
    ModifyForms s (0xE6#8, .incZp0) (0xF6#8, .incZpx) (0xEE#8, .incAbs) (0xFE#8, .incAbx)
      (ModifyOutcome s (fun m => m + 1#8) [.z, .n] fun m t => ZNOf (m + 1#8) t) ∧
    ModifyForms s (0xC6#8, .decZp0) (0xD6#8, .decZpx) (0xCE#8, .decAbs) (0xDE#8, .decAbx)
      (ModifyOutcome s (fun m => m - 1#8) [.z, .n] fun m t => ZNOf (m - 1#8) t) ∧
    ImpliedForm s 0xE8#8 .inx 2 [.x] [.z, .n] (fun t => t.cpu.x = s.cpu.x + 1#8 ∧ ZNOf (s.cpu.x + 1#8) t) ∧
    ImpliedForm s 0xC8#8 .iny 2 [.y] [.z, .n] (fun t => t.cpu.y = s.cpu.y + 1#8 ∧ ZNOf (s.cpu.y + 1#8) t) ∧
    ImpliedForm s 0xCA#8 .dex 2 [.x] [.z, .n] (fun t => t.cpu.x = s.cpu.x - 1#8 ∧ ZNOf (s.cpu.x - 1#8) t) ∧
    ImpliedForm s 0x88#8 .dey 2 [.y] [.z, .n] (fun t => t.cpu.y = s.cpu.y - 1#8 ∧ ZNOf (s.cpu.y - 1#8) t)

/-! ### Shift and rotate (43_shift_rotate.md) -/

/-- R251 to R254 (R250): `C` receives the bit shifted out, the old carry enters in `ROL` and `ROR`; in accumulator mode
the result goes back to `A`, in the memory forms there is one read and exactly one write of the shifted byte. -/
def Obligations.ShiftResults : Prop :=
  ∀ (s : State),
    let c := if flagC s.cpu.p then 1 else 0
    let asl := fun (m : Byte) => BitVec.ofNat 8 (2 * m.toNat)
    let lsr := fun (m : Byte) => BitVec.ofNat 8 (m.toNat / 2)
    let rol := fun (m : Byte) => BitVec.ofNat 8 (2 * m.toNat + c)
    let ror := fun (m : Byte) => BitVec.ofNat 8 (m.toNat / 2 + 128 * c)
    let A := fun (out : Nat) (f : Byte → Byte) (t : State) =>
      flagC t.cpu.p = s.cpu.a.getLsbD out ∧ t.cpu.a = f s.cpu.a ∧ ZNOf (f s.cpu.a) t
    let M := fun (out : Nat) (f : Byte → Byte) => ModifyOutcome s f [.c, .z, .n] fun m t =>
      flagC t.cpu.p = m.getLsbD out ∧ ZNOf (f m) t
    ImpliedForm s 0x0A#8 .aslAcc 2 [.a] [.c, .z, .n] (A 7 asl) ∧
    ImpliedForm s 0x4A#8 .lsrAcc 2 [.a] [.c, .z, .n] (A 0 lsr) ∧
    ImpliedForm s 0x2A#8 .rolAcc 2 [.a] [.c, .z, .n] (A 7 rol) ∧
    ImpliedForm s 0x6A#8 .rorAcc 2 [.a] [.c, .z, .n] (A 0 ror) ∧
    ModifyForms s (0x06#8, .aslZp0) (0x16#8, .aslZpx) (0x0E#8, .aslAbs) (0x1E#8, .aslAbx) (M 7 asl) ∧
    ModifyForms s (0x46#8, .lsrZp0) (0x56#8, .lsrZpx) (0x4E#8, .lsrAbs) (0x5E#8, .lsrAbx) (M 0 lsr) ∧
    ModifyForms s (0x26#8, .rolZp0) (0x36#8, .rolZpx) (0x2E#8, .rolAbs) (0x3E#8, .rolAbx) (M 7 rol) ∧
    ModifyForms s (0x66#8, .rorZp0) (0x76#8, .rorZpx) (0x6E#8, .rorAbs) (0x7E#8, .rorAbx) (M 0 ror)

/-! ### Control flow (44_control_flow.md) -/

/-- R261 with 40_cpu_engine.md R179, R182: `JMP`. The indirect form reads the low byte of the target at the pointer,
then, after that read, the high byte at the next address of the pointer's own page when the pointer ends in $FF, at the
next address otherwise. -/
def Obligations.JumpResults : Prop :=
  ∀ (s : State),
    (∀ a, Completes 0x4C#8 (.jmpAbs a) s fun t =>
      t.cpu.pc = a ∧ OnlyChanges [] [] s t ∧ OutsideIs s t ∧ Pulses 3 s t) ∧
    (∀ ptr, Completes 0x6C#8 (.jmpInd ptr) s fun t =>
      let next := if ptr.toNat % 256 = 255 then ptr - 255#16 else ptr + 1#16
      t.cpu.pc = word16 (busPeek (busTouch s ptr) next) (busPeek s ptr) ∧ OnlyChanges [] [] s t ∧
        OutsideIs (busTouch (busTouch s ptr) next) t ∧ Pulses 5 s t)

/-- R262, R263: `JSR` pushes the address of its own last byte, high byte first, into page 1 and goes to its operand;
`RTS` pulls a word, low byte first, and goes to the address after it. -/
def Obligations.SubroutineResults : Prop :=
  ∀ (s : State),
    (∀ a, Completes 0x20#8 (.jsr a) s fun t =>
      t.cpu.pc = a ∧ t.cpu.s = s.cpu.s - 2#8 ∧ OnlyChanges [.s] [] s t ∧
        OutsideIs (ramWrite (ramWrite s (256 + s.cpu.s.toNat) (hiByte (s.cpu.pc - 1#16)))
          (256 + (s.cpu.s - 1#8).toNat) (loByte (s.cpu.pc - 1#16))) t ∧ Pulses 6 s t) ∧
    Completes 0x60#8 .rts s fun t =>
      t.cpu.pc = word16 (ramRead s (256 + (s.cpu.s + 2#8).toNat)) (ramRead s (256 + (s.cpu.s + 1#8).toNat)) + 1#16 ∧
        t.cpu.s = s.cpu.s + 2#8 ∧ OnlyChanges [.s] [] s t ∧ OutsideIs s t ∧ Pulses 6 s t

/-- R264, R266: `RTI` pulls the status, of which bits 4 and 5 are ignored, then `PC`, low byte first, and adds nothing to
it. `BRK` pushes the address two past its own, high byte first, then the status with `B` and `U` set, sets `I` and goes to
the IRQ vector; `P.I` does not mask it and `IntChargeMode` does not apply. -/
def Obligations.RtiAndBrkResults : Prop :=
  ∀ (s : State),
    (Completes 0x40#8 .rti s fun t =>
      t.cpu.p = (ramRead s (256 + (s.cpu.s + 1#8).toNat) &&& 0xCF#8) ||| 0x20#8 ∧
        t.cpu.pc = word16 (ramRead s (256 + (s.cpu.s + 3#8).toNat)) (ramRead s (256 + (s.cpu.s + 2#8).toNat)) ∧
        t.cpu.s = s.cpu.s + 3#8 ∧ OnlyChanges [.s] [.n, .v, .u, .b, .d, .i, .z, .c] s t ∧ OutsideIs s t ∧
        Pulses 6 s t) ∧
    (Completes 0x00#8 .brk s fun t =>
      t.cpu.pc = word16 (busPeek s 0xFFFF#16) (busPeek s 0xFFFE#16) ∧ t.cpu.s = s.cpu.s - 3#8 ∧
        flagI t.cpu.p = true ∧ OnlyChanges [.s] [.i] s t ∧
        OutsideIs (ramWrite (ramWrite (ramWrite s (256 + s.cpu.s.toNat) (hiByte (s.cpu.pc + 1#16)))
          (256 + (s.cpu.s - 1#8).toNat) (loByte (s.cpu.pc + 1#16)))
          (256 + (s.cpu.s - 2#8).toNat) (s.cpu.p ||| 0x30#8)) t ∧ Pulses 7 s t)

/-- R265, R267 to R274: the eight branches. -/
def Obligations.BranchResults : Prop :=
  ∀ (s : State),
    BranchForm s 0x90#8 .bcc (flagC s.cpu.p == false) ∧ BranchForm s 0xB0#8 .bcs (flagC s.cpu.p == true) ∧
    BranchForm s 0xF0#8 .beq (flagZ s.cpu.p == true) ∧ BranchForm s 0xD0#8 .bne (flagZ s.cpu.p == false) ∧
    BranchForm s 0x30#8 .bmi (flagN s.cpu.p == true) ∧ BranchForm s 0x10#8 .bpl (flagN s.cpu.p == false) ∧
    BranchForm s 0x50#8 .bvc (flagV s.cpu.p == false) ∧ BranchForm s 0x70#8 .bvs (flagV s.cpu.p == true)

/-! ### Stack, flags, no operation (45_stack_flags_nop.md) -/

/-- R281 to R284: the pushes and pulls. `PHP` pushes `P` with `B` and `U` set and keeps `P`; `PLP` ignores bits 4 and 5
of the pulled byte. -/
def Obligations.StackResults : Prop :=
  ∀ (s : State),
    (Completes 0x48#8 .pha s fun t => t.cpu.s = s.cpu.s - 1#8 ∧ OnlyChanges [.s] [] s t ∧ t.cpu.pc = s.cpu.pc ∧
      OutsideIs (ramWrite s (256 + s.cpu.s.toNat) s.cpu.a) t ∧ Pulses 3 s t) ∧
    (Completes 0x08#8 .php s fun t => t.cpu.s = s.cpu.s - 1#8 ∧ OnlyChanges [.s] [] s t ∧ t.cpu.pc = s.cpu.pc ∧
      OutsideIs (ramWrite s (256 + s.cpu.s.toNat) (s.cpu.p ||| 0x30#8)) t ∧ Pulses 3 s t) ∧
    (let v := ramRead s (256 + (s.cpu.s + 1#8).toNat)
     ImpliedForm s 0x68#8 .pla 4 [.a, .s] [.z, .n] (fun t => t.cpu.a = v ∧ t.cpu.s = s.cpu.s + 1#8 ∧ ZNOf v t) ∧
     ImpliedForm s 0x28#8 .plp 4 [.s] [.n, .v, .u, .b, .d, .i, .z, .c]
       (fun t => t.cpu.p = (v &&& 0xCF#8) ||| 0x20#8 ∧ t.cpu.s = s.cpu.s + 1#8))

/-- R285 to R291, R295: the flag instructions write their one flag, `NOP` nothing. -/
def Obligations.FlagResults : Prop :=
  ∀ (s : State),
    ImpliedForm s 0x18#8 .clc 2 [] [.c] (fun t => flagC t.cpu.p = false) ∧
    ImpliedForm s 0x38#8 .sec 2 [] [.c] (fun t => flagC t.cpu.p = true) ∧
    ImpliedForm s 0x58#8 .cli 2 [] [.i] (fun t => flagI t.cpu.p = false) ∧
    ImpliedForm s 0x78#8 .sei 2 [] [.i] (fun t => flagI t.cpu.p = true) ∧
    ImpliedForm s 0xB8#8 .clv 2 [] [.v] (fun t => flagV t.cpu.p = false) ∧
    ImpliedForm s 0xD8#8 .cld 2 [] [.d] (fun t => flagD t.cpu.p = false) ∧
    ImpliedForm s 0xF8#8 .sed 2 [] [.d] (fun t => flagD t.cpu.p = true) ∧
    ImpliedForm s 0xEA#8 .nop 2 [] [] (fun t => t.cpu.p = s.cpu.p)

/-! ### Addresses and frames over all instructions -/

/-- 40_cpu_engine.md R176 to R181, R183, R184: the effective addresses as arithmetic. Zero-page indexing and both bytes
of a zero-page pointer wrap inside page 0, the 16-bit sums modulo 65536. -/
def Obligations.EffectiveAddresses : Prop :=
  ∀ (s : State) (z : Byte) (a : Addr),
    (eaZp0 z).toNat = z.toNat ∧
    (eaZpx s z).toNat = (z.toNat + s.cpu.x.toNat) % 256 ∧
    (eaZpy s z).toNat = (z.toNat + s.cpu.y.toNat) % 256 ∧
    eaAbs a = a ∧
    (eaAbx s a).toNat = (a.toNat + s.cpu.x.toNat) % 65536 ∧
    (eaAby s a).toNat = (a.toNat + s.cpu.y.toNat) % 65536 ∧
    (eaIzx s z).toNat = (ramRead s ((z.toNat + s.cpu.x.toNat) % 256)).toNat +
      256 * (ramRead s ((z.toNat + s.cpu.x.toNat + 1) % 256)).toNat ∧
    (eaIzy s z).toNat = ((ramRead s z.toNat).toNat + 256 * (ramRead s ((z.toNat + 1) % 256)).toNat +
      s.cpu.y.toNat) % 65536

/-- 10_state.md R20 to R27: a flag or register keeps its value across every instruction that is not among its writers; `B`
and `U` never change inside the register, and only the control transfers write `PC` besides its advance in the fetch. The
premise about `B` and `U` is part of the machine's invariant. -/
def Obligations.FlagAndRegisterWriters : Prop :=
  ∀ (i : Instr) (s t : State), exec i s = .next t →
    (∀ f, s.cpu.inv = true → mnemonicOf i ∉ flagWriters f → f.value t.cpu.p = f.value s.cpu.p) ∧
    (∀ r, mnemonicOf i ∉ regWriters r → r.value t.cpu = r.value s.cpu) ∧
    (mnemonicOf i ∉ pcWriters → t.cpu.pc = s.cpu.pc)

/-- The memory frame of every instruction: every byte of RAM, nametable RAM, OAM, palette, PRG-RAM, CHR storage and
PRG-ROM outside the places computed by `storedPlaces` (from the same effective addresses the meanings use) reads as
before; an instruction that stores nothing leaves every byte. The premise is the invariant of the machine. -/
def Obligations.MemoryFrame : Prop :=
  ∀ (i : Instr) (s t : State) (p : Place), s.inv = true → exec i s = .next t → p ∉ storedPlaces i s →
    placeByte t p = placeByte s p

/-- 20_memory.md R83, R84, R97, R98, R105, R112: a byte written through the CPU bus is read back, all eight bits, at
every place the write addresses. The premise is the invariant of the machine; $4014 stores other bytes
(`Obligations.OamDmaCopies`). -/
def Obligations.StoredByteReadsBack : Prop :=
  ∀ (s : State) (a : Addr) (v : Byte) (p : Place), s.inv = true → a ≠ 0x4014#16 → p ∈ storePlaces s a →
    placeByte (busWrite s a v) p = v

/-! ### The bus (20_memory.md) -/

/-- R84, R85: the mirrors of work RAM and of the PPU registers. A byte written at any mirror of a RAM cell is read at
every mirror of it, and no other cell changes; a PPU register is reached alike at each of its 1024 addresses. -/
def Obligations.Mirrors : Prop :=
  (∀ (s : State) (a b : Addr) (v : Byte), s.ram.wf unlistedByte Config.ramSize = true → a.toNat < 0x2000 →
    b.toNat < 0x2000 →
    busPeek s a = ramRead s (a.toNat % 2048) ∧ busTouch s a = s ∧
      busPeek (busWrite s a v) b = (if a.toNat % 2048 = b.toNat % 2048 then v else busPeek s b) ∧
      busWrite s a v = s.setRam (busWrite s a v).ram) ∧
  (∀ (s : State) (a : Addr) (v : Byte), 0x2000 ≤ a.toNat → a.toNat < 0x4000 →
    let r := BitVec.ofNat 16 (0x2000 + a.toNat % 8)
    busPeek s a = busPeek s r ∧ busTouch s a = busTouch s r ∧ busWrite s a v = busWrite s r v)

/-- R86, R90, R91, R92 (and the reads of R87, the write of R89): the addresses with nothing behind them read 0 and
ignore writes, and $4017 ignores writes. -/
def Obligations.UnmappedAddresses : Prop :=
  ∀ (s : State) (a : Addr) (v : Byte),
    (0x4000 ≤ a.toNat ∧ a.toNat ≤ 0x4013 ∨ a.toNat = 0x4015 ∨ 0x4018 ≤ a.toNat ∧ a.toNat ≤ 0x5FFF →
      busPeek s a = 0#8 ∧ busTouch s a = s ∧ busWrite s a v = s) ∧
    (a.toNat = 0x4014 → busPeek s a = 0#8 ∧ busTouch s a = s) ∧
    (a.toNat = 0x4017 → busWrite s a v = s)

/-- R82, R131, 46_ppu_registers.md R334, 49_dma_controllers.md R434: a read changes state only at $2002, $2007 (and their
mirrors), $4016 and $4017; there it changes nothing but the PPU's `vblank` and `w`, the PPU's `readBuf` and `v`, or the
shift register of that controller; the debug read returns the same byte and changes nothing. -/
def Obligations.ReadSideEffects : Prop :=
  ∀ (s : State) (a : Addr),
    cpuRead s a true = (busPeek s a, s) ∧ cpuRead s a false = (busPeek s a, busTouch s a) ∧
    (0x2000 ≤ a.toNat ∧ a.toNat < 0x4000 ∧ a.toNat % 8 = 2 →
      busTouch s a = s.setPpu { s.ppu with vblank := false, w := false }) ∧
    (0x2000 ≤ a.toNat ∧ a.toNat < 0x4000 ∧ a.toNat % 8 = 7 →
      busTouch s a = s.setPpu { s.ppu with readBuf := (busTouch s a).ppu.readBuf, v := (busTouch s a).ppu.v }) ∧
    (a.toNat = 0x4016 → busTouch s a = s.setPad1 (busTouch s a).pad1) ∧
    (a.toNat = 0x4017 → busTouch s a = s.setPad2 (busTouch s a).pad2) ∧
    (¬(0x2000 ≤ a.toNat ∧ a.toNat < 0x4000 ∧ (a.toNat % 8 = 2 ∨ a.toNat % 8 = 7)) → a.toNat ≠ 0x4016 →
      a.toNat ≠ 0x4017 → busTouch s a = s)

/-- R112, R118, R120, R125, R126: the CPU side of the three mapper variants: which PRG bank each 16 KB window shows, and
PRG-RAM with its enable in variant B. -/
def Obligations.PrgWindows : Prop :=
  ∀ (s : State) (a : Addr) (v : Byte),
    let bank := fun n => prgRomRead s (n * 16384 + a.toNat % 16384)
    let last := s.cart.prgBanks - 1
    let high := 0xC000 ≤ a.toNat
    (0x8000 ≤ a.toNat →
      (s.mapper = .nrom → busPeek s a = bank (if high then last else 0) ∧ busWrite s a v = s) ∧
      (∀ r : Mmc1, s.mapper = .mmc1 r →
        let b := r.prg.toNat % 16
        let mode := r.mctrl.toNat / 4 % 4
        (mode ≤ 1 → busPeek s a = bank ((b / 2 * 2 + if high then 1 else 0) % s.cart.prgBanks)) ∧
        (mode = 2 → busPeek s a = bank ((if high then b else 0) % s.cart.prgBanks)) ∧
        (mode = 3 → busPeek s a = bank ((if high then last else b) % s.cart.prgBanks))) ∧
      (∀ n : Byte, s.mapper = .uxrom n →
        busPeek s a = if high then bank last else if n.toNat < s.cart.prgBanks then bank n.toNat else 0#8)) ∧
    (0x6000 ≤ a.toNat → a.toNat < 0x8000 →
      ((∃ r : Mmc1, s.mapper = .mmc1 r ∧ r.prg.getLsbD 4 = true) → busPeek s a = 0#8 ∧ busWrite s a v = s) ∧
      ((¬∃ r : Mmc1, s.mapper = .mmc1 r ∧ r.prg.getLsbD 4 = true) →
        busPeek s a = prgRamRead s (a.toNat - 0x6000) ∧ busWrite s a v = prgRamWrite s (a.toNat - 0x6000) v))

/-- R115, R116, R124: writes to $8000 to $FFFF in variants B and C. Five writes with bit 7 clear fill one register, the
first written bit in bit 0, the register chosen by the address of the fifth alone; a write with bit 7 set empties the
shift register and its counter and changes no register. In variant C the bank is the value under the least mask of `k`
bits that covers the bank count. Nothing else changes. -/
def Obligations.BankSelectWrites : Prop :=
  (∀ (s : State) (r : Mmc1) (a1 a2 a3 a4 a5 : Addr) (v1 v2 v3 v4 v5 : Byte), s.mapper = .mmc1 r → r.wcount = 0 →
    0x8000 ≤ a1.toNat → 0x8000 ≤ a2.toNat → 0x8000 ≤ a3.toNat → 0x8000 ≤ a4.toNat → 0x8000 ≤ a5.toNat →
    v1.toNat < 128 → v2.toNat < 128 → v3.toNat < 128 → v4.toNat < 128 → v5.toNat < 128 →
    let val := BitVec.ofNat 5 (v1.toNat % 2 + 2 * (v2.toNat % 2) + 4 * (v3.toNat % 2) + 8 * (v4.toNat % 2) +
      16 * (v5.toNat % 2))
    let n := a5.toNat / 4096
    busWrite (busWrite (busWrite (busWrite (busWrite s a1 v1) a2 v2) a3 v3) a4 v4) a5 v5 =
      s.setMapper (.mmc1
        { shift := 0#5, wcount := 0,
          mctrl := if n = 8 ∨ n = 9 then val else r.mctrl, chr0 := if n = 10 ∨ n = 11 then val else r.chr0,
          chr1 := if n = 12 ∨ n = 13 then val else r.chr1, prg := if n = 14 ∨ n = 15 then val else r.prg })) ∧
  (∀ (s : State) (r : Mmc1) (a : Addr) (v : Byte), s.mapper = .mmc1 r → 0x8000 ≤ a.toNat → 128 ≤ v.toNat →
    busWrite s a v = s.setMapper (.mmc1 { r with shift := 0#5, wcount := 0 })) ∧
  (∀ (s : State) (n : Byte) (a : Addr) (v : Byte), s.mapper = .uxrom n → 0x8000 ≤ a.toNat → 1 ≤ s.cart.prgBanks →
    s.cart.prgBanks ≤ 32 →
    ∃ k, s.cart.prgBanks ≤ 2 ^ k ∧ (∀ j, j < k → 2 ^ j < s.cart.prgBanks) ∧
      busWrite s a v = s.setMapper (.uxrom (BitVec.ofNat 8 (v.toNat % 2 ^ k))))

/-- R97, R113, R119, R126: pattern memory. Variants A and C reach CHR bank 0; variant B reaches a 4 KB unit of each half,
taken modulo the number of units. A write is a store when CHR is RAM and nothing when it is ROM. -/
def Obligations.PatternMemory : Prop :=
  ∀ (s : State) (a : BitVec 14) (v : Byte), a.toNat ≤ 0x1FFF →
    let units := 2 * (if s.cart.chrBanks = 0 then 32 else s.cart.chrBanks)
    let high := 0x1000 ≤ a.toNat
    ∃ cell, ppuRd s a = chrRead s cell ∧
      ppuWr s a v = (if s.cart.chrBanks = 0 then chrWrite s cell v else s) ∧
      ((∀ r : Mmc1, s.mapper ≠ .mmc1 r) → cell = a.toNat) ∧
      (∀ r : Mmc1, s.mapper = .mmc1 r →
        (r.mctrl.toNat < 16 → cell = (r.chr0.toNat / 2 * 2 + if high then 1 else 0) % units * 4096 + a.toNat % 4096) ∧
        (16 ≤ r.mctrl.toNat →
          cell = (if high then r.chr1.toNat else r.chr0.toNat) % units * 4096 + a.toNat % 4096))

/-- R98 to R101, R114, R117, R121, R126: nametable memory. The logical table is bits 11:10 of the address; the physical
1 KB half it lies in is given by the mirroring mode, and the mode by the header or by variant B's control register. -/
def Obligations.NametableMirroring : Prop :=
  ∀ (s : State) (a : BitVec 14) (v : Byte), 0x2000 ≤ a.toNat →
    let table := a.toNat / 1024 % 4
    let half := match mirroring s with
      | .vertical => table % 2
      | .horizontal => table / 2
      | .singleLow => 0
      | .singleHigh => 1
    ppuRd s a = vramRead s (half * 1024 + a.toNat % 1024) ∧
      ppuWr s a v = vramWrite s (half * 1024 + a.toNat % 1024) v ∧
      ((∀ r : Mmc1, s.mapper ≠ .mmc1 r) → mirroring s = if s.cart.vertical then .vertical else .horizontal) ∧
      (∀ r : Mmc1, s.mapper = .mmc1 r →
        (r.mctrl.toNat % 4 = 0 → mirroring s = .singleLow) ∧ (r.mctrl.toNat % 4 = 1 → mirroring s = .singleHigh) ∧
        (r.mctrl.toNat % 4 = 2 → mirroring s = .vertical) ∧ (r.mctrl.toNat % 4 = 3 → mirroring s = .horizontal))

/-- R103, R104, R105: the palette: entries $10, $14, $18, $1C are the cells of $00, $04, $08, $0C; every other index has
its own cell; all eight bits are stored. -/
def Obligations.PaletteAliases : Prop :=
  ∀ (p : Ppu) (i j : Nat) (v : Byte), p.pal.wf unlistedByte Config.paletteSize = true →
    palRead (palWrite p i v) j =
      (if i % 32 = j % 32 ∨ (i % 4 = 0 ∧ i % 16 = j % 16) then v else palRead p j)

/-- R127 with 10_state.md R67: no step changes a byte of PRG-ROM or of CHR-ROM, the header fields, which mapper variant
is present, which controllers are connected, or a launch parameter. -/
def Obligations.RomAndLaunchStateAreFixed : Prop :=
  ∀ (s t : State), step s = .next t →
    t.cart = { s.cart with prgRam := t.cart.prgRam, chr := t.cart.chr } ∧
    (s.cart.chrBanks ≠ 0 → t.cart.chr = s.cart.chr) ∧ t.params = s.params ∧
    (s.mapper = .nrom ↔ t.mapper = .nrom) ∧ ((∃ r, s.mapper = .mmc1 r) ↔ ∃ r, t.mapper = .mmc1 r) ∧
    ((∃ n, s.mapper = .uxrom n) ↔ ∃ n, t.mapper = .uxrom n) ∧ (s.pad1 = none ↔ t.pad1 = none) ∧
    (s.pad2 = none ↔ t.pad2 = none)

/-! ### DMA and controllers (49_dma_controllers.md) -/

/-- R420, R421, R422: a write of `page` to $4014 is the loop of the rule: 256 reads in ascending order, each with its
side effects, each byte put at `oamAddr + i` modulo 256, `oamAddr` at the end what it was; then the stall of 513 or 514
pulses. Where the page has no side effects, every byte of OAM is the byte of the page. -/
def Obligations.OamDmaCopies : Prop :=
  ∀ (s : State) (page : Byte),
    let t := busWrite s 0x4014#16 page
    let u := (List.range 256).foldl (fun u i =>
      let a := BitVec.ofNat 16 (256 * page.toNat + i)
      (busTouch u a).setPpu (oamWrite (busTouch u a).ppu ((s.ppu.oamAddr.toNat + i) % 256) (busPeek u a))) s
    OutsideIs u t ∧ t.ppu.oamAddr = s.ppu.oamAddr ∧
    t.cpu = { s.cpu with cyc := s.cpu.cyc + (if s.cpu.total % 2 = 0 then 513 else 514) } ∧
    (s.ppu.oam.wf unlistedByte Config.oamSize = true → page.toNat < 0x20 ∨ 0x60 ≤ page.toNat →
      ∀ i, i < 256 → oamRead t.ppu ((s.ppu.oamAddr.toNat + i) % 256) =
        busPeek s (BitVec.ofNat 16 (256 * page.toNat + i)))

/-- R431, R433: the controller ports. A strobe write latches the buttons of both connected controllers when bit 0 is set;
while the strobe is set a read returns button A; after a write of a set and then a clear bit 0, read `k` returns button
`k` for the first eight and `ControllerTail` after them; a port with no controller reads 0. -/
def Obligations.ControllerPorts : Prop :=
  (∀ (s : State) (v : Byte),
    busWrite s 0x4016#16 v =
      (s.setPad1 (s.pad1.map fun p => { p with
        strobe := v.getLsbD 0, shiftReg := if v.getLsbD 0 then p.buttons else p.shiftReg })).setPad2
        (s.pad2.map fun p => { p with
          strobe := v.getLsbD 0, shiftReg := if v.getLsbD 0 then p.buttons else p.shiftReg })) ∧
  (∀ (s : State), (s.pad1 = none → busPeek s 0x4016#16 = 0#8 ∧ busTouch s 0x4016#16 = s) ∧
    (s.pad2 = none → busPeek s 0x4017#16 = 0#8 ∧ busTouch s 0x4017#16 = s)) ∧
  (∀ (s : State) (p : Pad), p.strobe = true →
    (s.pad1 = some p → busPeek s 0x4016#16 = BitVec.ofNat 8 (p.buttons.toNat % 2) ∧
      busTouch s 0x4016#16 = s.setPad1 (some { p with shiftReg := p.buttons })) ∧
    (s.pad2 = some p → busPeek s 0x4017#16 = BitVec.ofNat 8 (p.buttons.toNat % 2) ∧
      busTouch s 0x4017#16 = s.setPad2 (some { p with shiftReg := p.buttons }))) ∧
  (∀ (s : State) (p1 p2 : Pad) (on off : Byte) (k : Nat), s.pad1 = some p1 → s.pad2 = some p2 → on.getLsbD 0 = true →
    off.getLsbD 0 = false →
    let u := busWrite (busWrite s 0x4016#16 on) 0x4016#16 off
    let bit := fun (p : Pad) => if k < 8 then p.buttons.getLsbD k else s.params.controllerTail
    busPeek (Nat.repeat (fun t => busTouch t 0x4016#16) k u) 0x4016#16 = (if bit p1 then 1#8 else 0#8) ∧
      busPeek (Nat.repeat (fun t => busTouch t 0x4017#16) k u) 0x4017#16 = (if bit p2 then 1#8 else 0#8))

/-! ### PPU registers (46_ppu_registers.md) -/

/-- R303, R311, R317, R320, R322, R323, R324, R326, R327: what a write to each register but the data port changes, bit by
bit of `t`; nothing else changes, and no NMI is raised. -/
def Obligations.PpuRegisterWrites : Prop :=
  ∀ (s : State) (a : Addr) (v : Byte), 0x2000 ≤ a.toNat → a.toNat < 0x4000 →
    let p := s.ppu
    (a.toNat % 8 = 0 → ∃ t, busWrite s a v = s.setPpu { p with ctrl := v, t := t } ∧
      ∀ i, i < 15 → t.getLsbD i =
        if i = 10 then v.getLsbD 0 else if i = 11 then v.getLsbD 1 else p.t.getLsbD i) ∧
    (a.toNat % 8 = 1 → busWrite s a v = s.setPpu { p with mask := v }) ∧
    (a.toNat % 8 = 2 → busWrite s a v = s) ∧
    (a.toNat % 8 = 3 → busWrite s a v = s.setPpu { p with oamAddr := v }) ∧
    (a.toNat % 8 = 4 → busWrite s a v = s.setPpu { p with
      oam := p.oam.write unlistedByte p.oamAddr.toNat v, oamAddr := BitVec.ofNat 8 (p.oamAddr.toNat + 1) }) ∧
    (a.toNat % 8 = 5 → p.w = false →
      ∃ t, busWrite s a v = s.setPpu { p with t := t, x := BitVec.ofNat 3 (v.toNat % 8), w := true } ∧
        ∀ i, i < 15 → t.getLsbD i = if i < 5 then v.getLsbD (i + 3) else p.t.getLsbD i) ∧
    (a.toNat % 8 = 5 → p.w = true → ∃ t, busWrite s a v = s.setPpu { p with t := t, w := false } ∧
      ∀ i, i < 15 → t.getLsbD i = if 12 ≤ i then v.getLsbD (i - 12)
        else if 5 ≤ i ∧ i < 10 then v.getLsbD (i - 2) else p.t.getLsbD i) ∧
    (a.toNat % 8 = 6 → p.w = false → ∃ t, busWrite s a v = s.setPpu { p with t := t, w := true } ∧
      ∀ i, i < 15 → t.getLsbD i = if i = 14 then false else if 8 ≤ i then v.getLsbD (i - 8) else p.t.getLsbD i) ∧
    (a.toNat % 8 = 6 → p.w = true → ∃ t, busWrite s a v = s.setPpu { p with t := t, v := t, w := false } ∧
      ∀ i, i < 15 → t.getLsbD i = if i < 8 then v.getLsbD i else p.t.getLsbD i)

/-- R301, R315, R316, R321, R331: what a read of each register returns and changes; the debug read returns the same
byte and changes nothing. -/
def Obligations.PpuRegisterReads : Prop :=
  ∀ (s : State) (a : Addr), 0x2000 ≤ a.toNat → a.toNat < 0x4000 →
    let p := s.ppu
    let r := a.toNat % 8
    let pa := BitVec.ofNat 14 p.v.toNat
    cpuRead s a true = (busPeek s a, s) ∧ cpuRead s a false = (busPeek s a, busTouch s a) ∧
    (r = 0 ∨ r = 1 ∨ r = 3 ∨ r = 5 ∨ r = 6 → busPeek s a = 0#8 ∧ busTouch s a = s) ∧
    (r = 2 → (busPeek s a).toNat =
        (if p.vblank then 128 else 0) + (if p.sprite0 then 64 else 0) + (if p.overflow then 32 else 0) ∧
      busTouch s a = s.setPpu { p with vblank := false, w := false }) ∧
    (r = 4 → busPeek s a = oamRead p p.oamAddr.toNat ∧ busTouch s a = s) ∧
    (r = 7 → busPeek s a = (if 0x3F00 ≤ pa.toNat then palRead p (pa.toNat % 32) else p.readBuf) ∧
      busTouch s a = s.setPpu (incV { p with readBuf := ppuRd s pa }))

/-- R312, R330, R332, R333: the data port write and its increment: palette from $3F00 up, PPU memory below; then `v`
moves by 1 or 32 modulo $8000, or, while rendering is active, by one coarse-X and one fine-Y increment. -/
def Obligations.DataPortWrite : Prop :=
  (∀ (s : State) (a : Addr) (val : Byte), 0x2000 ≤ a.toNat → a.toNat < 0x4000 → a.toNat % 8 = 7 →
    let pa := BitVec.ofNat 14 s.ppu.v.toNat
    (0x3F00 ≤ pa.toNat → busWrite s a val = s.setPpu (incV (palWrite s.ppu (pa.toNat % 32) val))) ∧
    (pa.toNat < 0x3F00 → busWrite s a val = (ppuWr s pa val).setPpu (incV s.ppu))) ∧
  (∀ (p : Ppu),
    let active := (p.mask.getLsbD 3 = true ∨ p.mask.getLsbD 4 = true) ∧ (p.scanline ≤ 239 ∨ p.scanline = 261)
    (active → incV p = { p with v := incFineY (incCoarseX p.v) }) ∧
    (¬active → incV p = { p with v := BitVec.ofNat 15 (p.v.toNat + if p.ctrl.getLsbD 2 then 32 else 1) }))

/-! ### The PPU pulse (47_ppu_background.md, 48_ppu_sprites_output.md) -/

/-- 47_ppu_background.md R360 to R363: the four updates of `v`, field by field. -/
def Obligations.ScrollUpdates : Prop :=
  ∀ (t v : BitVec 15),
    (let u := incCoarseX v
     coarseX u = (if coarseX v = 31#5 then 0#5 else coarseX v + 1#5) ∧
       u.getLsbD 10 = (if coarseX v = 31#5 then !v.getLsbD 10 else v.getLsbD 10) ∧
       coarseY u = coarseY v ∧ u.getLsbD 11 = v.getLsbD 11 ∧ fineY u = fineY v) ∧
    (let u := incFineY v
     fineY u = fineY v + 1#3 ∧
       coarseY u = (if fineY v ≠ 7#3 then coarseY v
         else if coarseY v = 29#5 ∨ coarseY v = 31#5 then 0#5 else coarseY v + 1#5) ∧
       u.getLsbD 11 = (if fineY v = 7#3 ∧ coarseY v = 29#5 then !v.getLsbD 11 else v.getLsbD 11) ∧
       coarseX u = coarseX v ∧ u.getLsbD 10 = v.getLsbD 10) ∧
    (∀ i, i < 15 → (copyHorizontal t v).getLsbD i = if i < 5 ∨ i = 10 then t.getLsbD i else v.getLsbD i) ∧
    (∀ i, i < 15 → (copyVertical t v).getLsbD i =
      if 5 ≤ i ∧ i ≠ 10 then t.getLsbD i else v.getLsbD i)

/-- R342: the counters: the next point of the 262 by 341 grid, wrapping to (0, 0), which an odd frame reaches one pulse
early when rendering is enabled; the parity changes at that wrap and nowhere else. -/
def Obligations.GridAdvance : Prop :=
  ∀ (s : State), s.ppu.scanline ≤ 261 → s.ppu.cycle ≤ 340 →
    let p := s.ppu
    let q := (ppuPulse s).ppu
    let skip := p.scanline = 261 ∧ p.cycle = 339 ∧ p.frameOdd = true ∧
      (p.mask.getLsbD 3 = true ∨ p.mask.getLsbD 4 = true)
    let here := 341 * p.scanline + p.cycle
    q.scanline ≤ 261 ∧ q.cycle ≤ 340 ∧
      (skip → 341 * q.scanline + q.cycle = 0 ∧ q.frameOdd = false) ∧
      (¬skip → 341 * q.scanline + q.cycle = (here + 1) % 89342 ∧
        q.frameOdd = (if here = 89341 then !p.frameOdd else p.frameOdd))

/-- R343, R344, 20_memory.md R102: the events of the PPU pulse. The vblank flag is set at (241, 1) and an NMI is entered
there exactly when `nmiEnable` is 1 at that pulse; all three flags are clear after (261, 1); at every other point the
vblank flag and the CPU are left alone; no PPU pulse writes nametable or pattern memory, the mapper, a controller, and
none outside an NMI entry writes RAM. -/
def Obligations.VblankAndNmi : Prop :=
  ∀ (s : State),
    let t := ppuPulse s
    (s.ppu.scanline = 241 ∧ s.ppu.cycle = 1 → t.ppu.vblank = true ∧
      (s.ppu.ctrl.getLsbD 7 = true → t.cpu = (nmi s).cpu ∧ t.ram = (nmi s).ram) ∧
      (s.ppu.ctrl.getLsbD 7 = false → t.cpu = s.cpu ∧ t.ram = s.ram)) ∧
    (s.ppu.scanline = 261 ∧ s.ppu.cycle = 1 → t.ppu.vblank = false ∧ t.ppu.sprite0 = false ∧ t.ppu.overflow = false) ∧
    (¬(s.ppu.scanline = 241 ∧ s.ppu.cycle = 1) → t.cpu = s.cpu ∧ t.ram = s.ram ∧
      (¬(s.ppu.scanline = 261 ∧ s.ppu.cycle = 1) → t.ppu.vblank = s.ppu.vblank)) ∧
    t.vram = s.vram ∧ t.cart = s.cart ∧ t.mapper = s.mapper ∧ t.pad1 = s.pad1 ∧ t.pad2 = s.pad2 ∧
    t.params = s.params ∧ t.inputs = s.inputs

/-- R312, R341, R364: off the rendering lines, or with rendering disabled, a pulse does nothing to the PPU but the flag
events, the frame swap and the counters: `v`, `t`, the pipeline, OAM and the framebuffers keep their values. -/
def Obligations.IdlePulse : Prop :=
  ∀ (s : State), (s.ppu.mask.getLsbD 3 = false ∧ s.ppu.mask.getLsbD 4 = false) ∨
      (239 < s.ppu.scanline ∧ s.ppu.scanline ≠ 261) →
    let p := s.ppu
    let q := (ppuPulse s).ppu
    q = { p with scanline := q.scanline, cycle := q.cycle, frameOdd := q.frameOdd, front := q.front,
                 vblank := q.vblank, sprite0 := q.sprite0, overflow := q.overflow } ∧
      (¬(p.scanline = 261 ∧ p.cycle = 1) → q.sprite0 = p.sprite0 ∧ q.overflow = p.overflow)

/-- R350 to R356: one cycle of the background pipeline on a rendering line with rendering enabled: which fetch is made
at which address, when the registers shift and reload, and (R360 to R363) how `v` moves. -/
def Obligations.BackgroundPipeline : Prop :=
  ∀ (s : State), (s.ppu.mask.getLsbD 3 = true ∨ s.ppu.mask.getLsbD 4 = true) →
    (s.ppu.scanline ≤ 239 ∨ s.ppu.scanline = 261) →
    let p := s.ppu
    let q := (ppuPulse s).ppu
    let c := p.cycle
    let inWindow := (1 ≤ c ∧ c ≤ 256) ∨ (321 ≤ c ∧ c ≤ 336)
    let at_ := fun n => inWindow ∧ c % 8 = n
    let table := if p.ctrl.getLsbD 4 then 4096 else 0
    let nt := (ntSelect p.v).toNat
    let cx := (coarseX p.v).toNat
    let cy := (coarseY p.v).toNat
    let fy := (fineY p.v).toNat
    let v1 := if at_ 0 then incCoarseX p.v else p.v
    let v2 := if c = 256 then incFineY v1 else v1
    let v3 := if c = 257 then copyHorizontal p.t v2 else v2
    q.ntByte = (if at_ 1 then ppuRd s (BitVec.ofNat 14 (0x2000 + 1024 * nt + 32 * cy + cx)) else p.ntByte) ∧
    q.atBits = (if at_ 3 then BitVec.ofNat 2
        ((ppuRd s (BitVec.ofNat 14 (0x23C0 + 1024 * nt + 8 * (cy / 4) + cx / 4))).toNat /
          2 ^ (4 * (cy / 2 % 2) + 2 * (cx / 2 % 2)))
      else p.atBits) ∧
    q.patLo = (if at_ 5 then ppuRd s (BitVec.ofNat 14 (table + 16 * p.ntByte.toNat + fy)) else p.patLo) ∧
    q.patHi = (if at_ 7 then ppuRd s (BitVec.ofNat 14 (table + 16 * p.ntByte.toNat + 8 + fy)) else p.patHi) ∧
    q.bgLo = (if at_ 0 then BitVec.ofNat 16 (p.bgLo.toNat * 2 / 256 * 256 + p.patLo.toNat)
      else if inWindow then BitVec.ofNat 16 (p.bgLo.toNat * 2) else p.bgLo) ∧
    q.bgHi = (if at_ 0 then BitVec.ofNat 16 (p.bgHi.toNat * 2 / 256 * 256 + p.patHi.toNat)
      else if inWindow then BitVec.ofNat 16 (p.bgHi.toNat * 2) else p.bgHi) ∧
    q.palLatch0 = (if at_ 0 then p.palLatch1 else p.palLatch0) ∧
    q.palLatch1 = (if at_ 0 then p.atBits else p.palLatch1) ∧
    q.v = (if p.scanline = 261 ∧ 280 ≤ c ∧ c ≤ 304 then copyVertical p.t v3 else v3) ∧
    q.t = p.t ∧ q.x = p.x ∧ q.w = p.w

/-- 48_ppu_sprites_output.md R381 to R384, R387: the clearing of secondary OAM and the scan, which copies in ascending
order the first eight entries whose rows meet the line and raises the overflow flag at a ninth; the pre-render line does
not scan. Neither changes OAM or `oamAddr`. -/
def Obligations.SpriteEvaluation : Prop :=
  ∀ (s : State), (s.ppu.mask.getLsbD 3 = true ∨ s.ppu.mask.getLsbD 4 = true) →
    s.ppu.secEval.wf unlistedSecondary Config.secondarySize = true →
    let p := s.ppu
    let q := (ppuPulse s).ppu
    let l := p.scanline
    let c := p.cycle
    let kept := q.secEval = p.secEval ∧ q.secEvalCount = p.secEvalCount ∧ q.secEvalHasZero = p.secEvalHasZero
    (c ≤ 256 → q.oam = p.oam ∧ q.oamAddr = p.oamAddr) ∧
    (l ≤ 239 ∨ l = 261 → 1 ≤ c → c ≤ 64 →
      q.secEvalCount = (if c = 1 then 0 else p.secEvalCount) ∧
      q.secEvalHasZero = (if c = 1 then false else p.secEvalHasZero) ∧
      ∀ k, secEvalRead q k = if c = 2 * (k + 1) then 0xFF#8 else secEvalRead p k) ∧
    (l = 261 → 65 ≤ c → kept) ∧
    (l ≤ 239 → 65 ≤ c → (∀ n, n < 64 → c ≠ 65 + 3 * n) → kept ∧ q.overflow = p.overflow) ∧
    (∀ n, l ≤ 239 → n < 64 → c = 65 + 3 * n →
      let y := (oamRead p (4 * n)).toNat
      let inside := y ≤ l ∧ l < y + (if p.ctrl.getLsbD 5 then 16 else 8)
      (¬inside → kept ∧ q.overflow = p.overflow) ∧
      (inside → 8 ≤ p.secEvalCount → kept ∧ q.overflow = true) ∧
      (inside → p.secEvalCount < 8 → q.overflow = p.overflow ∧ q.secEvalCount = p.secEvalCount + 1 ∧
        q.secEvalHasZero = (p.secEvalHasZero || decide (n = 0)) ∧
        ∀ k, secEvalRead q k =
          if 4 * p.secEvalCount ≤ k ∧ k < 4 * p.secEvalCount + 4 then oamRead p (4 * n + (k - 4 * p.secEvalCount))
          else secEvalRead p k))

/-- 48_ppu_sprites_output.md R385, R386, R388 to R391: cycles 257 to 320: the latch of secondary OAM, `oamAddr` held at 0,
and the two pattern bytes of each slot, fetched at the row's address and flipped, or 0 for an empty slot. The row of an
entry is `L - y`, which the rule takes for an entry that begins at or above the line. -/
def Obligations.SpriteFetch : Prop :=
  ∀ (s : State), (s.ppu.mask.getLsbD 3 = true ∨ s.ppu.mask.getLsbD 4 = true) →
    (s.ppu.scanline ≤ 239 ∨ s.ppu.scanline = 261) → 257 ≤ s.ppu.cycle → s.ppu.cycle ≤ 320 →
    s.ppu.sprLo.wf unlistedByte Config.slotCount = true → s.ppu.sprHi.wf unlistedByte Config.slotCount = true →
    let p := s.ppu
    let q := (ppuPulse s).ppu
    let c := p.cycle
    let slot := (c - 257) / 8
    let phase := (c - 257) % 8
    let y := (secRendRead p (4 * slot)).toNat
    let tile := (secRendRead p (4 * slot + 1)).toNat
    let attr := secRendRead p (4 * slot + 2)
    let row := p.scanline - y
    let r8 := if attr.getLsbD 7 then 7 - row % 8 else row % 8
    let r16 := if attr.getLsbD 7 then 15 - row % 16 else row % 16
    let base := if p.ctrl.getLsbD 5 then 4096 * (tile % 2) + 16 * (tile / 2 * 2 + r16 / 8) + r16 % 8
      else (if p.ctrl.getLsbD 3 then 4096 else 0) + 16 * tile + r8
    let flipped := fun (b : Byte) (i : Nat) => if attr.getLsbD 6 then b.getLsbD (7 - i) else b.getLsbD i
    let holds := fun (m' m : Memory) (plane : Nat) =>
      (∀ k, k ≠ slot → m'.read unlistedByte k = m.read unlistedByte k) ∧
      (p.secRendCount ≤ slot → m'.read unlistedByte slot = 0#8) ∧
      (slot < p.secRendCount → y ≤ p.scanline → ∀ i, i < 8 → (m'.read unlistedByte slot).getLsbD i =
        flipped (ppuRd s (BitVec.ofNat 14 (base + plane))) i)
    q.oamAddr = 0#8 ∧
    (c = 257 → q.secRend = p.secEval ∧ q.secRendCount = p.secEvalCount ∧ q.secRendHasZero = p.secEvalHasZero) ∧
    (c ≠ 257 → q.secRend = p.secRend ∧ q.secRendCount = p.secRendCount ∧ q.secRendHasZero = p.secRendHasZero) ∧
    (phase = 4 → holds q.sprLo p.sprLo 0) ∧ (phase ≠ 4 → q.sprLo = p.sprLo) ∧
    (phase = 6 → holds q.sprHi p.sprHi 8) ∧ (phase ≠ 6 → q.sprHi = p.sprHi)

/-- 48_ppu_sprites_output.md R395: the sprite pixel of a column is that of the first slot with an opaque pixel there, with
that slot's palette and priority, and it is primary entry 0's when it is slot 0's and entry 0 was found. -/
def Obligations.SpritePixelIsFirstOpaque : Prop :=
  ∀ (p : Ppu) (col : Nat),
    let pixel := fun k =>
      let x := (secRendRead p (4 * k + 3)).toNat
      if x ≤ col ∧ col ≤ x + 7 then
        2 * ((p.sprHi.read unlistedByte k).getLsbD (7 - (col - x))).toNat +
          ((p.sprLo.read unlistedByte k).getLsbD (7 - (col - x))).toNat
      else 0
    ((∀ k, k < p.secRendCount → pixel k = 0) →
      spritePixel p col = { value := 0#2, palette := 0#2, behind := false, isZero := false }) ∧
    (∀ k, k < p.secRendCount → pixel k ≠ 0 → (∀ j, j < k → pixel j = 0) →
      spritePixel p col =
        { value := BitVec.ofNat 2 (pixel k), palette := BitVec.ofNat 2 (secRendRead p (4 * k + 2)).toNat,
          behind := (secRendRead p (4 * k + 2)).getLsbD 5, isZero := decide (k = 0) && p.secRendHasZero })

/-- 48_ppu_sprites_output.md R396 to R399, R403, R405 with 47_ppu_background.md R357: on a visible line, cycles 1 to 256,
with both enables set, one pixel of the back buffer becomes the colour of the composed palette index, no other pixel
changes, and the sprite-0 hit is recorded. The colour itself is the free `HardwarePalette` of the six-bit code. -/
def Obligations.PixelOutput : Prop :=
  ∀ (s : State), s.ppu.scanline ≤ 239 → 1 ≤ s.ppu.cycle → s.ppu.cycle ≤ 256 → s.ppu.mask.getLsbD 3 = true →
    s.ppu.mask.getLsbD 4 = true → s.ppu.fb0.wf unlistedByte Config.frameBytes = true →
    s.ppu.fb1.wf unlistedByte Config.frameBytes = true →
    let p := s.ppu
    let q := (ppuPulse s).ppu
    let c := p.cycle
    let x := p.x.toNat
    let clip := s.params.leftClip = true ∧ c ≤ 8
    let bp := if clip ∧ p.mask.getLsbD 1 = false then 0
      else 2 * (p.bgHi.getLsbD (15 - x)).toNat + (p.bgLo.getLsbD (15 - x)).toNat
    let bpal := (if 8 ≤ x + (c - 1) % 8 then p.palLatch1 else p.palLatch0).toNat
    let dot := if clip ∧ p.mask.getLsbD 2 = false then SpriteDot.none else spritePixel p (c - 1)
    let idx := if dot.value.toNat ≠ 0 ∧ (bp = 0 ∨ dot.behind = false) then 16 + 4 * dot.palette.toNat + dot.value.toNat
      else if bp ≠ 0 then 4 * bpal + bp else 0
    let e := (palRead p idx).toNat % 64
    let code := if p.mask.getLsbD 0 then e / 16 * 16 else e
    let drawn := if p.front then q.fb0 else q.fb1
    readPixel drawn p.scanline (c - 1) = Config.hardwarePalette (BitVec.ofNat 6 code) ∧
    (∀ row col, row < 240 → col < 256 → (row, col) ≠ (p.scanline, c - 1) →
      readPixel drawn row col = readPixel (backBuffer p) row col) ∧
    q.sprite0 = (p.sprite0 || (dot.isZero && decide (bp ≠ 0) && decide (c < 256)))

/-- 48_ppu_sprites_output.md R397, R410, R411: a PPU pulse never writes the front buffer; it writes the back buffer only on
a visible line, cycles 1 to 256, with both enables set; the buffers change places at (239, 256) and nowhere else. -/
def Obligations.FrontBufferIsNotWritten : Prop :=
  ∀ (s : State),
    let p := s.ppu
    let q := (ppuPulse s).ppu
    (if p.front then q.fb1 else q.fb0) = frontBuffer p ∧
    (¬(p.scanline ≤ 239 ∧ 1 ≤ p.cycle ∧ p.cycle ≤ 256 ∧ p.mask.getLsbD 3 = true ∧ p.mask.getLsbD 4 = true) →
      q.fb0 = p.fb0 ∧ q.fb1 = p.fb1) ∧
    q.front = (if p.scanline = 239 ∧ p.cycle = 256 then !p.front else p.front)

/-! ### Interrupts, reset, power-up (60_exceptions.md, 70_reset_and_hazards.md) -/

/-- 60_exceptions.md R445, R447, R448, R449: `nmi()` enters at $FFFA whatever `P.I` is; `irq()` enters at $FFFE when
`P.I` is 0 and otherwise leaves no trace. -/
def Obligations.InterruptEntry : Prop :=
  ∀ (s : State), EntryOutcome 0xFFFA#16 s (nmi s) ∧
    (flagI s.cpu.p = false → EntryOutcome 0xFFFE#16 s (irq s)) ∧ (flagI s.cpu.p = true → irq s = s)

/-- 60_exceptions.md R446, R452: an entry is precise: `RTI` on the state an entry left resumes with the `PC`, `S` and `P`
of the interrupted program, the other registers never having changed; after `BRK` it resumes one byte past the byte
after the opcode. The premise is the invariant of the machine. -/
def Obligations.EntryThenRtiResumes : Prop :=
  ∀ (s : State), s.inv = true →
    (∃ t, exec .rti (nmi s) = .next t ∧ t.cpu.pc = s.cpu.pc ∧ t.cpu.p = s.cpu.p ∧ OnlyChanges [] [] s t) ∧
    (flagI s.cpu.p = false →
      ∃ t, exec .rti (irq s) = .next t ∧ t.cpu.pc = s.cpu.pc ∧ t.cpu.p = s.cpu.p ∧ OnlyChanges [] [] s t) ∧
    (∃ u t, exec .brk s = .next u ∧ exec .rti u = .next t ∧ t.cpu.pc = s.cpu.pc + 1#16 ∧ t.cpu.p = s.cpu.p ∧
      OnlyChanges [] [] s t)

/-- 70_reset_and_hazards.md R483, R484: `reset()`, with everything it writes and everything it leaves alone. -/
def Obligations.HostReset : Prop :=
  ∀ (s : State),
    let t := hostReset s
    t.cpu = { s.cpu with pc := word16 (busPeek s 0xFFFD#16) (busPeek s 0xFFFC#16), s := 0xFD#8, p := 0x24#8, cyc := 7,
                         fetched := 0#8, addr := 0#16 } ∧
    t.ppu = { s.ppu with ctrl := 0#8, mask := 0#8, w := false, readBuf := 0#8 } ∧
    t.ram = s.ram ∧ t.vram = s.vram ∧ t.cart = s.cart ∧ t.mapper = s.mapper ∧ t.pad1 = s.pad1 ∧ t.pad2 = s.pad2 ∧
    t.params = s.params ∧ t.inputs = s.inputs

/-- 70_reset_and_hazards.md R481 with the power-up column of 10_state.md R70, for every cartridge and every `InitMem`.
One clause is the model's choice and no rule's: that a connected controller has no button pressed at power-up (log 5;
R70 leaves `buttons` to the host). Its `strobe` and `shiftReg` are R70's. -/
def Obligations.PowerUpValues : Prop :=
  ∀ (c : Cart) (m : Mapper) (init : InitMem) (on1 on2 : Bool) (params : Params),
    let s := powerUp c m init on1 on2 params
    s.cpu = { a := 0#8, x := 0#8, y := 0#8, s := 0xFD#8, p := 0x24#8,
              pc := word16 (busPeek s 0xFFFD#16) (busPeek s 0xFFFC#16), fetched := 0#8, addr := 0#16, cyc := 7,
              total := 0 } ∧
    s.ppu.ctrl = 0#8 ∧ s.ppu.mask = 0#8 ∧ s.ppu.vblank = false ∧ s.ppu.sprite0 = false ∧ s.ppu.overflow = false ∧
    s.ppu.oamAddr = 0#8 ∧ s.ppu.readBuf = 0#8 ∧ s.ppu.scanline = 0 ∧ s.ppu.cycle = 0 ∧ s.ppu.frameOdd = false ∧
    s.ppu.v = 0#15 ∧ s.ppu.t = 0#15 ∧ s.ppu.x = 0#3 ∧ s.ppu.w = false ∧ s.ppu.bgLo = 0#16 ∧ s.ppu.bgHi = 0#16 ∧
    s.ppu.palLatch0 = 0#2 ∧ s.ppu.palLatch1 = 0#2 ∧ s.ppu.ntByte = 0#8 ∧ s.ppu.atBits = 0#2 ∧ s.ppu.patLo = 0#8 ∧
    s.ppu.patHi = 0#8 ∧ s.ppu.secEvalCount = 0 ∧ s.ppu.secEvalHasZero = false ∧ s.ppu.secRendCount = 0 ∧
    s.ppu.secRendHasZero = false ∧ s.ppu.front = false ∧
    (∀ k, secEvalRead s.ppu k = 0xFF#8 ∧ secRendRead s.ppu k = 0xFF#8 ∧
      s.ppu.sprLo.read unlistedByte k = 0#8 ∧ s.ppu.sprHi.read unlistedByte k = 0#8) ∧
    s.ram = init.ram ∧ s.vram = init.vram ∧ s.ppu.oam = init.oam ∧ s.ppu.pal = init.pal ∧
    s.cart.prgRam = init.prgRam ∧ s.cart.prgRom = c.prgRom ∧
    s.cart.chr = (if c.chrBanks = 0 then init.chrRam else c.chr) ∧ s.mapper = m ∧
    s.pad1 = (if on1 then some { buttons := 0#8, strobe := false, shiftReg := 0#8 } else none) ∧
    s.pad2 = (if on2 then some { buttons := 0#8, strobe := false, shiftReg := 0#8 } else none)

/-- 70_reset_and_hazards.md R493, R494, R496: when a load fails, and otherwise which mapper variant it selects. Which
failure an image gets that is both malformed and of an unknown mapper is the model's choice and no rule's: the format
error is reported first (log 14), so unsupported hardware is reported of well-formed images alone. -/
def Obligations.LoadFailures : Prop :=
  ∀ (img : List Byte),
    let byte := fun n => (img.getD n 0#8).toNat
    let size := 16 + (if byte 6 / 4 % 2 = 1 then 512 else 0) + byte 4 * 16384 + byte 5 * 8192
    let good := 16 ≤ img.length ∧ byte 0 = 0x4E ∧ byte 1 = 0x45 ∧ byte 2 = 0x53 ∧ byte 3 = 0x1A ∧ byte 7 / 4 % 4 ≠ 2 ∧
      1 ≤ byte 4 ∧ byte 4 ≤ 32 ∧ byte 5 ≤ 32 ∧ size ≤ img.length
    let full := byte 7 / 16 * 16 + byte 6 / 16
    let id := if byte 10 % 16 = 0 then full else full % 16
    (loadCartridge img = .error .formatError ↔ ¬good) ∧
    (loadCartridge img = .error .unsupportedHardware ↔ good ∧ 3 ≤ id) ∧
    (good → id = 0 → ∃ c, loadCartridge img = .ok (c, .nrom)) ∧
    (good → id = 1 → ∃ c, loadCartridge img = .ok
      (c, .mmc1 { shift := 0#5, wcount := 0, mctrl := 0x0C#5, chr0 := 0#5, chr1 := 0#5, prg := 0#5 })) ∧
    (good → id = 2 → ∃ c, loadCartridge img = .ok (c, .uxrom 0#8))

/-- 70_reset_and_hazards.md R491, R492, R495: what a loaded cartridge holds: the header's fields, and every byte of
PRG-ROM, CHR-ROM and trainer from its place in the image; a machine powered up from it with zero memory meets the
invariant. -/
def Obligations.LoadedCartridge : Prop :=
  ∀ (img : List Byte) (c : Cart) (m : Mapper), loadCartridge img = .ok (c, m) →
    let byte := fun n => img.getD n 0#8
    let trainer := if (byte 6).getLsbD 2 then 512 else 0
    c.prgBanks = (byte 4).toNat ∧ c.chrBanks = (byte 5).toNat ∧ c.vertical = (byte 6).getLsbD 0 ∧
    c.hasPrgRam = (byte 6).getLsbD 1 ∧ c.fourScreen = (byte 6).getLsbD 3 ∧ c.vsUnisystem = (byte 7).getLsbD 0 ∧
    c.playChoice = (byte 7).getLsbD 1 ∧ c.prgRamCode = byte 8 ∧ c.tvSystem = (byte 9).getLsbD 0 ∧
    c.trainer.length = trainer ∧ (∀ k, k < trainer → c.trainer.getD k 0#8 = byte (16 + k)) ∧
    (∀ k, k < c.prgBanks * 16384 → c.prgRom.read unlistedByte k = byte (16 + trainer + k)) ∧
    (∀ k, k < c.chrBanks * 8192 → c.chr.read unlistedByte k = byte (16 + trainer + c.prgBanks * 16384 + k)) ∧
    (∀ on1 on2 params, (powerUp c m InitMem.zero on1 on2 params).inv = true)

/-- 10_state.md R71: the state after reset meets the invariant; it is the power-up of the blank cartridge, all memory
zero, both controllers connected (the model's choices, logs 2 to 5). -/
def Obligations.ResetMeetsInvariant : Prop :=
  State.reset.inv = true ∧ State.reset = powerUp Cart.blank .nrom InitMem.zero true true Config.defaultParams

/-- 10_state.md R71: every step keeps the invariant: `P.U` is 1 and `P.B` is 0, the PPU's counters and slot counts are in
range, the serial counter is at most 4, and every memory is canonical and of its size. -/
def Obligations.StepKeepsInvariant : Prop :=
  ∀ (s t : State), s.inv = true → step s = .next t → t.inv = true
end

