-- ==== Sys2Proof/Laws/Arith.lean ====
section
/-! SUPPORT. The sums and shifts of the flag computations as arithmetic of natural numbers. -/

namespace Sys2Proof.Machine

theorem sumByte_eq (a m : Byte) (c : Bool) :
    sumByte a m c = BitVec.ofNat 8 (a.toNat + m.toNat + if c then 1 else 0) := by
  apply BitVec.eq_of_toNat_eq
  cases c <;> simp [sumByte, sum9]

theorem sumCarry_eq (a m : Byte) (c : Bool) :
    sumCarry a m c = decide (256 ≤ a.toNat + m.toNat + if c then 1 else 0) := by
  have := a.isLt
  have := m.isLt
  unfold sumCarry
  rw [show (sum9 a m c).getLsbD 8 = (sum9 a m c).msb from rfl, BitVec.msb_eq_decide]
  cases c <;> simp [sum9] <;> omega

theorem sumOverflow_eq (a m r : Byte) : sumOverflow a m r = (a.msb == m.msb && a.msb != r.msb) := by
  unfold sumOverflow
  rw [BitVec.msb_eq_getLsbD_last, BitVec.msb_eq_getLsbD_last, BitVec.msb_eq_getLsbD_last]
  simp only [BitVec.getLsbD_and, BitVec.getLsbD_not, BitVec.getLsbD_xor]
  generalize a.getLsbD 7 = x
  generalize m.getLsbD 7 = y
  generalize r.getLsbD 7 = z
  cases x <;> cases y <;> cases z <;> rfl

theorem compl_toNat (m : Byte) : (m ^^^ 0xFF#8).toNat = 255 - m.toNat := by
  rw [show (0xFF#8 : Byte) = BitVec.allOnes 8 from rfl, BitVec.xor_allOnes, BitVec.toNat_not]

theorem compl_msb (m : Byte) : (m ^^^ 0xFF#8).msb = !m.msb := by
  rw [show (0xFF#8 : Byte) = BitVec.allOnes 8 from rfl, BitVec.xor_allOnes, BitVec.msb_not]
  simp

theorem sumByte_compl (a m : Byte) (c : Bool) :
    sumByte a (m ^^^ 0xFF#8) c = a - m - BitVec.ofNat 8 (if c then 0 else 1) := by
  have := a.isLt
  have := m.isLt
  rw [sumByte_eq, compl_toNat]
  apply BitVec.eq_of_toNat_eq
  cases c <;> simp <;> omega

theorem sumCarry_compl (a m : Byte) (c : Bool) :
    sumCarry a (m ^^^ 0xFF#8) c = decide (m.toNat + (if c then 0 else 1) ≤ a.toNat) := by
  have := a.isLt
  have := m.isLt
  rw [sumCarry_eq, compl_toNat]
  cases c <;> simp <;> omega

theorem sumOverflow_compl (a m r : Byte) :
    sumOverflow a (m ^^^ 0xFF#8) r = (a.msb != m.msb && a.msb != r.msb) := by
  rw [sumOverflow_eq, compl_msb]
  generalize a.msb = x
  generalize m.msb = y
  generalize r.msb = z
  cases x <;> cases y <;> cases z <;> rfl

theorem shiftLeft_one_eq (m : Byte) : m <<< 1 = BitVec.ofNat 8 (2 * m.toNat) := by
  apply BitVec.eq_of_toNat_eq
  simp only [BitVec.toNat_shiftLeft, BitVec.toNat_ofNat, Nat.shiftLeft_eq]
  omega

theorem shiftRight_one_eq (m : Byte) : m >>> 1 = BitVec.ofNat 8 (m.toNat / 2) := by
  have := m.isLt
  apply BitVec.eq_of_toNat_eq
  simp only [BitVec.toNat_ushiftRight, BitVec.toNat_ofNat, Nat.shiftRight_eq_div_pow]
  omega

theorem rol_eq : ∀ (m : Byte) (c : Bool),
    (m <<< 1) ||| (if c then 0x01#8 else 0x00#8) = BitVec.ofNat 8 (2 * m.toNat + if c then 1 else 0) := by
  decide +kernel

theorem ror_eq : ∀ (m : Byte) (c : Bool),
    (m >>> 1) ||| (if c then 0x80#8 else 0x00#8) = BitVec.ofNat 8 (m.toNat / 2 + 128 * if c then 1 else 0) := by
  decide +kernel

end Sys2Proof.Machine
end

