-- ==== Sys2Proof/Laws/Bits.lean ====
section
/-! SUPPORT. A 16-bit word and its two bytes: splitting and joining are inverse, and the joined word is low plus 256 times
high. -/

namespace Sys2Proof

theorem word16_toNat (h l : Byte) : (word16 h l).toNat = 256 * h.toNat + l.toNat := by
  have hl : l.toNat < 2 ^ 8 := l.isLt
  simp only [word16, BitVec.toNat_append]
  rw [← Nat.shiftLeft_add_eq_or_of_lt hl, Nat.shiftLeft_eq]
  omega

@[simp] theorem word16_bytes (a : Addr) : word16 (hiByte a) (loByte a) = a := by
  have ha : a.toNat < 65536 := a.isLt
  refine BitVec.eq_of_toNat_eq ?_
  rw [word16_toNat]
  simp only [hiByte, loByte, BitVec.extractLsb'_toNat, Nat.shiftRight_eq_div_pow]
  omega

@[simp] theorem loByte_word16 (h l : Byte) : loByte (word16 h l) = l := by
  have hl : l.toNat < 256 := l.isLt
  refine BitVec.eq_of_toNat_eq ?_
  simp only [loByte, BitVec.extractLsb'_toNat, word16_toNat, Nat.shiftRight_eq_div_pow]
  omega

@[simp] theorem hiByte_word16 (h l : Byte) : hiByte (word16 h l) = h := by
  have hl : l.toNat < 256 := l.isLt
  have hh : h.toNat < 256 := h.isLt
  refine BitVec.eq_of_toNat_eq ?_
  simp only [hiByte, BitVec.extractLsb'_toNat, word16_toNat, Nat.shiftRight_eq_div_pow]
  omega

@[simp] theorem leBytes_word16 (h l : Byte) : leBytes (word16 h l) = [l, h] := by
  simp only [leBytes, loByte_word16, hiByte_word16]

end Sys2Proof
end

