-- ==== Sys2Proof/Laws/State.lean ====
section
/-! SUPPORT. One lemma per field per update of a state, each true by rfl. -/

namespace Sys2Proof.Machine

@[simp] theorem State.setA_cpu_a (v : Byte) (s : State) : (s.setA v).cpu.a = v := rfl
@[simp] theorem State.setA_cpu_x (v : Byte) (s : State) : (s.setA v).cpu.x = s.cpu.x := rfl
@[simp] theorem State.setA_cpu_y (v : Byte) (s : State) : (s.setA v).cpu.y = s.cpu.y := rfl
@[simp] theorem State.setA_cpu_s (v : Byte) (s : State) : (s.setA v).cpu.s = s.cpu.s := rfl
@[simp] theorem State.setA_cpu_p (v : Byte) (s : State) : (s.setA v).cpu.p = s.cpu.p := rfl
@[simp] theorem State.setA_cpu_pc (v : Byte) (s : State) : (s.setA v).cpu.pc = s.cpu.pc := rfl
@[simp] theorem State.setA_cpu_fetched (v : Byte) (s : State) : (s.setA v).cpu.fetched = s.cpu.fetched := rfl
@[simp] theorem State.setA_cpu_addr (v : Byte) (s : State) : (s.setA v).cpu.addr = s.cpu.addr := rfl
@[simp] theorem State.setA_cpu_cyc (v : Byte) (s : State) : (s.setA v).cpu.cyc = s.cpu.cyc := rfl
@[simp] theorem State.setA_cpu_total (v : Byte) (s : State) : (s.setA v).cpu.total = s.cpu.total := rfl
@[simp] theorem State.setA_ppu (v : Byte) (s : State) : (s.setA v).ppu = s.ppu := rfl
@[simp] theorem State.setA_ram (v : Byte) (s : State) : (s.setA v).ram = s.ram := rfl
@[simp] theorem State.setA_vram (v : Byte) (s : State) : (s.setA v).vram = s.vram := rfl
@[simp] theorem State.setA_cart (v : Byte) (s : State) : (s.setA v).cart = s.cart := rfl
@[simp] theorem State.setA_mapper (v : Byte) (s : State) : (s.setA v).mapper = s.mapper := rfl
@[simp] theorem State.setA_pad1 (v : Byte) (s : State) : (s.setA v).pad1 = s.pad1 := rfl
@[simp] theorem State.setA_pad2 (v : Byte) (s : State) : (s.setA v).pad2 = s.pad2 := rfl
@[simp] theorem State.setA_params (v : Byte) (s : State) : (s.setA v).params = s.params := rfl
@[simp] theorem State.setA_inputs (v : Byte) (s : State) : (s.setA v).inputs = s.inputs := rfl
@[simp] theorem State.setX_cpu_a (v : Byte) (s : State) : (s.setX v).cpu.a = s.cpu.a := rfl
@[simp] theorem State.setX_cpu_x (v : Byte) (s : State) : (s.setX v).cpu.x = v := rfl
@[simp] theorem State.setX_cpu_y (v : Byte) (s : State) : (s.setX v).cpu.y = s.cpu.y := rfl
@[simp] theorem State.setX_cpu_s (v : Byte) (s : State) : (s.setX v).cpu.s = s.cpu.s := rfl
@[simp] theorem State.setX_cpu_p (v : Byte) (s : State) : (s.setX v).cpu.p = s.cpu.p := rfl
@[simp] theorem State.setX_cpu_pc (v : Byte) (s : State) : (s.setX v).cpu.pc = s.cpu.pc := rfl
@[simp] theorem State.setX_cpu_fetched (v : Byte) (s : State) : (s.setX v).cpu.fetched = s.cpu.fetched := rfl
@[simp] theorem State.setX_cpu_addr (v : Byte) (s : State) : (s.setX v).cpu.addr = s.cpu.addr := rfl
@[simp] theorem State.setX_cpu_cyc (v : Byte) (s : State) : (s.setX v).cpu.cyc = s.cpu.cyc := rfl
@[simp] theorem State.setX_cpu_total (v : Byte) (s : State) : (s.setX v).cpu.total = s.cpu.total := rfl
@[simp] theorem State.setX_ppu (v : Byte) (s : State) : (s.setX v).ppu = s.ppu := rfl
@[simp] theorem State.setX_ram (v : Byte) (s : State) : (s.setX v).ram = s.ram := rfl
@[simp] theorem State.setX_vram (v : Byte) (s : State) : (s.setX v).vram = s.vram := rfl
@[simp] theorem State.setX_cart (v : Byte) (s : State) : (s.setX v).cart = s.cart := rfl
@[simp] theorem State.setX_mapper (v : Byte) (s : State) : (s.setX v).mapper = s.mapper := rfl
@[simp] theorem State.setX_pad1 (v : Byte) (s : State) : (s.setX v).pad1 = s.pad1 := rfl
@[simp] theorem State.setX_pad2 (v : Byte) (s : State) : (s.setX v).pad2 = s.pad2 := rfl
@[simp] theorem State.setX_params (v : Byte) (s : State) : (s.setX v).params = s.params := rfl
@[simp] theorem State.setX_inputs (v : Byte) (s : State) : (s.setX v).inputs = s.inputs := rfl
@[simp] theorem State.setY_cpu_a (v : Byte) (s : State) : (s.setY v).cpu.a = s.cpu.a := rfl
@[simp] theorem State.setY_cpu_x (v : Byte) (s : State) : (s.setY v).cpu.x = s.cpu.x := rfl
@[simp] theorem State.setY_cpu_y (v : Byte) (s : State) : (s.setY v).cpu.y = v := rfl
@[simp] theorem State.setY_cpu_s (v : Byte) (s : State) : (s.setY v).cpu.s = s.cpu.s := rfl
@[simp] theorem State.setY_cpu_p (v : Byte) (s : State) : (s.setY v).cpu.p = s.cpu.p := rfl
@[simp] theorem State.setY_cpu_pc (v : Byte) (s : State) : (s.setY v).cpu.pc = s.cpu.pc := rfl
@[simp] theorem State.setY_cpu_fetched (v : Byte) (s : State) : (s.setY v).cpu.fetched = s.cpu.fetched := rfl
@[simp] theorem State.setY_cpu_addr (v : Byte) (s : State) : (s.setY v).cpu.addr = s.cpu.addr := rfl
@[simp] theorem State.setY_cpu_cyc (v : Byte) (s : State) : (s.setY v).cpu.cyc = s.cpu.cyc := rfl
@[simp] theorem State.setY_cpu_total (v : Byte) (s : State) : (s.setY v).cpu.total = s.cpu.total := rfl
@[simp] theorem State.setY_ppu (v : Byte) (s : State) : (s.setY v).ppu = s.ppu := rfl
@[simp] theorem State.setY_ram (v : Byte) (s : State) : (s.setY v).ram = s.ram := rfl
@[simp] theorem State.setY_vram (v : Byte) (s : State) : (s.setY v).vram = s.vram := rfl
@[simp] theorem State.setY_cart (v : Byte) (s : State) : (s.setY v).cart = s.cart := rfl
@[simp] theorem State.setY_mapper (v : Byte) (s : State) : (s.setY v).mapper = s.mapper := rfl
@[simp] theorem State.setY_pad1 (v : Byte) (s : State) : (s.setY v).pad1 = s.pad1 := rfl
@[simp] theorem State.setY_pad2 (v : Byte) (s : State) : (s.setY v).pad2 = s.pad2 := rfl
@[simp] theorem State.setY_params (v : Byte) (s : State) : (s.setY v).params = s.params := rfl
@[simp] theorem State.setY_inputs (v : Byte) (s : State) : (s.setY v).inputs = s.inputs := rfl
@[simp] theorem State.setS_cpu_a (v : Byte) (s : State) : (s.setS v).cpu.a = s.cpu.a := rfl
@[simp] theorem State.setS_cpu_x (v : Byte) (s : State) : (s.setS v).cpu.x = s.cpu.x := rfl
@[simp] theorem State.setS_cpu_y (v : Byte) (s : State) : (s.setS v).cpu.y = s.cpu.y := rfl
@[simp] theorem State.setS_cpu_s (v : Byte) (s : State) : (s.setS v).cpu.s = v := rfl
@[simp] theorem State.setS_cpu_p (v : Byte) (s : State) : (s.setS v).cpu.p = s.cpu.p := rfl
@[simp] theorem State.setS_cpu_pc (v : Byte) (s : State) : (s.setS v).cpu.pc = s.cpu.pc := rfl
@[simp] theorem State.setS_cpu_fetched (v : Byte) (s : State) : (s.setS v).cpu.fetched = s.cpu.fetched := rfl
@[simp] theorem State.setS_cpu_addr (v : Byte) (s : State) : (s.setS v).cpu.addr = s.cpu.addr := rfl
@[simp] theorem State.setS_cpu_cyc (v : Byte) (s : State) : (s.setS v).cpu.cyc = s.cpu.cyc := rfl
@[simp] theorem State.setS_cpu_total (v : Byte) (s : State) : (s.setS v).cpu.total = s.cpu.total := rfl
@[simp] theorem State.setS_ppu (v : Byte) (s : State) : (s.setS v).ppu = s.ppu := rfl
@[simp] theorem State.setS_ram (v : Byte) (s : State) : (s.setS v).ram = s.ram := rfl
@[simp] theorem State.setS_vram (v : Byte) (s : State) : (s.setS v).vram = s.vram := rfl
@[simp] theorem State.setS_cart (v : Byte) (s : State) : (s.setS v).cart = s.cart := rfl
@[simp] theorem State.setS_mapper (v : Byte) (s : State) : (s.setS v).mapper = s.mapper := rfl
@[simp] theorem State.setS_pad1 (v : Byte) (s : State) : (s.setS v).pad1 = s.pad1 := rfl
@[simp] theorem State.setS_pad2 (v : Byte) (s : State) : (s.setS v).pad2 = s.pad2 := rfl
@[simp] theorem State.setS_params (v : Byte) (s : State) : (s.setS v).params = s.params := rfl
@[simp] theorem State.setS_inputs (v : Byte) (s : State) : (s.setS v).inputs = s.inputs := rfl
@[simp] theorem State.setP_cpu_a (v : Byte) (s : State) : (s.setP v).cpu.a = s.cpu.a := rfl
@[simp] theorem State.setP_cpu_x (v : Byte) (s : State) : (s.setP v).cpu.x = s.cpu.x := rfl
@[simp] theorem State.setP_cpu_y (v : Byte) (s : State) : (s.setP v).cpu.y = s.cpu.y := rfl
@[simp] theorem State.setP_cpu_s (v : Byte) (s : State) : (s.setP v).cpu.s = s.cpu.s := rfl
@[simp] theorem State.setP_cpu_p (v : Byte) (s : State) : (s.setP v).cpu.p = v := rfl
@[simp] theorem State.setP_cpu_pc (v : Byte) (s : State) : (s.setP v).cpu.pc = s.cpu.pc := rfl
@[simp] theorem State.setP_cpu_fetched (v : Byte) (s : State) : (s.setP v).cpu.fetched = s.cpu.fetched := rfl
@[simp] theorem State.setP_cpu_addr (v : Byte) (s : State) : (s.setP v).cpu.addr = s.cpu.addr := rfl
@[simp] theorem State.setP_cpu_cyc (v : Byte) (s : State) : (s.setP v).cpu.cyc = s.cpu.cyc := rfl
@[simp] theorem State.setP_cpu_total (v : Byte) (s : State) : (s.setP v).cpu.total = s.cpu.total := rfl
@[simp] theorem State.setP_ppu (v : Byte) (s : State) : (s.setP v).ppu = s.ppu := rfl
@[simp] theorem State.setP_ram (v : Byte) (s : State) : (s.setP v).ram = s.ram := rfl
@[simp] theorem State.setP_vram (v : Byte) (s : State) : (s.setP v).vram = s.vram := rfl
@[simp] theorem State.setP_cart (v : Byte) (s : State) : (s.setP v).cart = s.cart := rfl
@[simp] theorem State.setP_mapper (v : Byte) (s : State) : (s.setP v).mapper = s.mapper := rfl
@[simp] theorem State.setP_pad1 (v : Byte) (s : State) : (s.setP v).pad1 = s.pad1 := rfl
@[simp] theorem State.setP_pad2 (v : Byte) (s : State) : (s.setP v).pad2 = s.pad2 := rfl
@[simp] theorem State.setP_params (v : Byte) (s : State) : (s.setP v).params = s.params := rfl
@[simp] theorem State.setP_inputs (v : Byte) (s : State) : (s.setP v).inputs = s.inputs := rfl
@[simp] theorem State.setPc_cpu_a (v : Addr) (s : State) : (s.setPc v).cpu.a = s.cpu.a := rfl
@[simp] theorem State.setPc_cpu_x (v : Addr) (s : State) : (s.setPc v).cpu.x = s.cpu.x := rfl
@[simp] theorem State.setPc_cpu_y (v : Addr) (s : State) : (s.setPc v).cpu.y = s.cpu.y := rfl
@[simp] theorem State.setPc_cpu_s (v : Addr) (s : State) : (s.setPc v).cpu.s = s.cpu.s := rfl
@[simp] theorem State.setPc_cpu_p (v : Addr) (s : State) : (s.setPc v).cpu.p = s.cpu.p := rfl
@[simp] theorem State.setPc_cpu_pc (v : Addr) (s : State) : (s.setPc v).cpu.pc = v := rfl
@[simp] theorem State.setPc_cpu_fetched (v : Addr) (s : State) : (s.setPc v).cpu.fetched = s.cpu.fetched := rfl
@[simp] theorem State.setPc_cpu_addr (v : Addr) (s : State) : (s.setPc v).cpu.addr = s.cpu.addr := rfl
@[simp] theorem State.setPc_cpu_cyc (v : Addr) (s : State) : (s.setPc v).cpu.cyc = s.cpu.cyc := rfl
@[simp] theorem State.setPc_cpu_total (v : Addr) (s : State) : (s.setPc v).cpu.total = s.cpu.total := rfl
@[simp] theorem State.setPc_ppu (v : Addr) (s : State) : (s.setPc v).ppu = s.ppu := rfl
@[simp] theorem State.setPc_ram (v : Addr) (s : State) : (s.setPc v).ram = s.ram := rfl
@[simp] theorem State.setPc_vram (v : Addr) (s : State) : (s.setPc v).vram = s.vram := rfl
@[simp] theorem State.setPc_cart (v : Addr) (s : State) : (s.setPc v).cart = s.cart := rfl
@[simp] theorem State.setPc_mapper (v : Addr) (s : State) : (s.setPc v).mapper = s.mapper := rfl
@[simp] theorem State.setPc_pad1 (v : Addr) (s : State) : (s.setPc v).pad1 = s.pad1 := rfl
@[simp] theorem State.setPc_pad2 (v : Addr) (s : State) : (s.setPc v).pad2 = s.pad2 := rfl
@[simp] theorem State.setPc_params (v : Addr) (s : State) : (s.setPc v).params = s.params := rfl
@[simp] theorem State.setPc_inputs (v : Addr) (s : State) : (s.setPc v).inputs = s.inputs := rfl
@[simp] theorem State.setFetched_cpu_a (v : Byte) (s : State) : (s.setFetched v).cpu.a = s.cpu.a := rfl
@[simp] theorem State.setFetched_cpu_x (v : Byte) (s : State) : (s.setFetched v).cpu.x = s.cpu.x := rfl
@[simp] theorem State.setFetched_cpu_y (v : Byte) (s : State) : (s.setFetched v).cpu.y = s.cpu.y := rfl
@[simp] theorem State.setFetched_cpu_s (v : Byte) (s : State) : (s.setFetched v).cpu.s = s.cpu.s := rfl
@[simp] theorem State.setFetched_cpu_p (v : Byte) (s : State) : (s.setFetched v).cpu.p = s.cpu.p := rfl
@[simp] theorem State.setFetched_cpu_pc (v : Byte) (s : State) : (s.setFetched v).cpu.pc = s.cpu.pc := rfl
@[simp] theorem State.setFetched_cpu_fetched (v : Byte) (s : State) : (s.setFetched v).cpu.fetched = v := rfl
@[simp] theorem State.setFetched_cpu_addr (v : Byte) (s : State) : (s.setFetched v).cpu.addr = s.cpu.addr := rfl
@[simp] theorem State.setFetched_cpu_cyc (v : Byte) (s : State) : (s.setFetched v).cpu.cyc = s.cpu.cyc := rfl
@[simp] theorem State.setFetched_cpu_total (v : Byte) (s : State) : (s.setFetched v).cpu.total = s.cpu.total := rfl
@[simp] theorem State.setFetched_ppu (v : Byte) (s : State) : (s.setFetched v).ppu = s.ppu := rfl
@[simp] theorem State.setFetched_ram (v : Byte) (s : State) : (s.setFetched v).ram = s.ram := rfl
@[simp] theorem State.setFetched_vram (v : Byte) (s : State) : (s.setFetched v).vram = s.vram := rfl
@[simp] theorem State.setFetched_cart (v : Byte) (s : State) : (s.setFetched v).cart = s.cart := rfl
@[simp] theorem State.setFetched_mapper (v : Byte) (s : State) : (s.setFetched v).mapper = s.mapper := rfl
@[simp] theorem State.setFetched_pad1 (v : Byte) (s : State) : (s.setFetched v).pad1 = s.pad1 := rfl
@[simp] theorem State.setFetched_pad2 (v : Byte) (s : State) : (s.setFetched v).pad2 = s.pad2 := rfl
@[simp] theorem State.setFetched_params (v : Byte) (s : State) : (s.setFetched v).params = s.params := rfl
@[simp] theorem State.setFetched_inputs (v : Byte) (s : State) : (s.setFetched v).inputs = s.inputs := rfl
@[simp] theorem State.setAddr_cpu_a (v : Addr) (s : State) : (s.setAddr v).cpu.a = s.cpu.a := rfl
@[simp] theorem State.setAddr_cpu_x (v : Addr) (s : State) : (s.setAddr v).cpu.x = s.cpu.x := rfl
@[simp] theorem State.setAddr_cpu_y (v : Addr) (s : State) : (s.setAddr v).cpu.y = s.cpu.y := rfl
@[simp] theorem State.setAddr_cpu_s (v : Addr) (s : State) : (s.setAddr v).cpu.s = s.cpu.s := rfl
@[simp] theorem State.setAddr_cpu_p (v : Addr) (s : State) : (s.setAddr v).cpu.p = s.cpu.p := rfl
@[simp] theorem State.setAddr_cpu_pc (v : Addr) (s : State) : (s.setAddr v).cpu.pc = s.cpu.pc := rfl
@[simp] theorem State.setAddr_cpu_fetched (v : Addr) (s : State) : (s.setAddr v).cpu.fetched = s.cpu.fetched := rfl
@[simp] theorem State.setAddr_cpu_addr (v : Addr) (s : State) : (s.setAddr v).cpu.addr = v := rfl
@[simp] theorem State.setAddr_cpu_cyc (v : Addr) (s : State) : (s.setAddr v).cpu.cyc = s.cpu.cyc := rfl
@[simp] theorem State.setAddr_cpu_total (v : Addr) (s : State) : (s.setAddr v).cpu.total = s.cpu.total := rfl
@[simp] theorem State.setAddr_ppu (v : Addr) (s : State) : (s.setAddr v).ppu = s.ppu := rfl
@[simp] theorem State.setAddr_ram (v : Addr) (s : State) : (s.setAddr v).ram = s.ram := rfl
@[simp] theorem State.setAddr_vram (v : Addr) (s : State) : (s.setAddr v).vram = s.vram := rfl
@[simp] theorem State.setAddr_cart (v : Addr) (s : State) : (s.setAddr v).cart = s.cart := rfl
@[simp] theorem State.setAddr_mapper (v : Addr) (s : State) : (s.setAddr v).mapper = s.mapper := rfl
@[simp] theorem State.setAddr_pad1 (v : Addr) (s : State) : (s.setAddr v).pad1 = s.pad1 := rfl
@[simp] theorem State.setAddr_pad2 (v : Addr) (s : State) : (s.setAddr v).pad2 = s.pad2 := rfl
@[simp] theorem State.setAddr_params (v : Addr) (s : State) : (s.setAddr v).params = s.params := rfl
@[simp] theorem State.setAddr_inputs (v : Addr) (s : State) : (s.setAddr v).inputs = s.inputs := rfl
@[simp] theorem State.setCyc_cpu_a (v : Nat) (s : State) : (s.setCyc v).cpu.a = s.cpu.a := rfl
@[simp] theorem State.setCyc_cpu_x (v : Nat) (s : State) : (s.setCyc v).cpu.x = s.cpu.x := rfl
@[simp] theorem State.setCyc_cpu_y (v : Nat) (s : State) : (s.setCyc v).cpu.y = s.cpu.y := rfl
@[simp] theorem State.setCyc_cpu_s (v : Nat) (s : State) : (s.setCyc v).cpu.s = s.cpu.s := rfl
@[simp] theorem State.setCyc_cpu_p (v : Nat) (s : State) : (s.setCyc v).cpu.p = s.cpu.p := rfl
@[simp] theorem State.setCyc_cpu_pc (v : Nat) (s : State) : (s.setCyc v).cpu.pc = s.cpu.pc := rfl
@[simp] theorem State.setCyc_cpu_fetched (v : Nat) (s : State) : (s.setCyc v).cpu.fetched = s.cpu.fetched := rfl
@[simp] theorem State.setCyc_cpu_addr (v : Nat) (s : State) : (s.setCyc v).cpu.addr = s.cpu.addr := rfl
@[simp] theorem State.setCyc_cpu_cyc (v : Nat) (s : State) : (s.setCyc v).cpu.cyc = v := rfl
@[simp] theorem State.setCyc_cpu_total (v : Nat) (s : State) : (s.setCyc v).cpu.total = s.cpu.total := rfl
@[simp] theorem State.setCyc_ppu (v : Nat) (s : State) : (s.setCyc v).ppu = s.ppu := rfl
@[simp] theorem State.setCyc_ram (v : Nat) (s : State) : (s.setCyc v).ram = s.ram := rfl
@[simp] theorem State.setCyc_vram (v : Nat) (s : State) : (s.setCyc v).vram = s.vram := rfl
@[simp] theorem State.setCyc_cart (v : Nat) (s : State) : (s.setCyc v).cart = s.cart := rfl
@[simp] theorem State.setCyc_mapper (v : Nat) (s : State) : (s.setCyc v).mapper = s.mapper := rfl
@[simp] theorem State.setCyc_pad1 (v : Nat) (s : State) : (s.setCyc v).pad1 = s.pad1 := rfl
@[simp] theorem State.setCyc_pad2 (v : Nat) (s : State) : (s.setCyc v).pad2 = s.pad2 := rfl
@[simp] theorem State.setCyc_params (v : Nat) (s : State) : (s.setCyc v).params = s.params := rfl
@[simp] theorem State.setCyc_inputs (v : Nat) (s : State) : (s.setCyc v).inputs = s.inputs := rfl
@[simp] theorem State.setTotal_cpu_a (v : Nat) (s : State) : (s.setTotal v).cpu.a = s.cpu.a := rfl
@[simp] theorem State.setTotal_cpu_x (v : Nat) (s : State) : (s.setTotal v).cpu.x = s.cpu.x := rfl
@[simp] theorem State.setTotal_cpu_y (v : Nat) (s : State) : (s.setTotal v).cpu.y = s.cpu.y := rfl
@[simp] theorem State.setTotal_cpu_s (v : Nat) (s : State) : (s.setTotal v).cpu.s = s.cpu.s := rfl
@[simp] theorem State.setTotal_cpu_p (v : Nat) (s : State) : (s.setTotal v).cpu.p = s.cpu.p := rfl
@[simp] theorem State.setTotal_cpu_pc (v : Nat) (s : State) : (s.setTotal v).cpu.pc = s.cpu.pc := rfl
@[simp] theorem State.setTotal_cpu_fetched (v : Nat) (s : State) : (s.setTotal v).cpu.fetched = s.cpu.fetched := rfl
@[simp] theorem State.setTotal_cpu_addr (v : Nat) (s : State) : (s.setTotal v).cpu.addr = s.cpu.addr := rfl
@[simp] theorem State.setTotal_cpu_cyc (v : Nat) (s : State) : (s.setTotal v).cpu.cyc = s.cpu.cyc := rfl
@[simp] theorem State.setTotal_cpu_total (v : Nat) (s : State) : (s.setTotal v).cpu.total = v := rfl
@[simp] theorem State.setTotal_ppu (v : Nat) (s : State) : (s.setTotal v).ppu = s.ppu := rfl
@[simp] theorem State.setTotal_ram (v : Nat) (s : State) : (s.setTotal v).ram = s.ram := rfl
@[simp] theorem State.setTotal_vram (v : Nat) (s : State) : (s.setTotal v).vram = s.vram := rfl
@[simp] theorem State.setTotal_cart (v : Nat) (s : State) : (s.setTotal v).cart = s.cart := rfl
@[simp] theorem State.setTotal_mapper (v : Nat) (s : State) : (s.setTotal v).mapper = s.mapper := rfl
@[simp] theorem State.setTotal_pad1 (v : Nat) (s : State) : (s.setTotal v).pad1 = s.pad1 := rfl
@[simp] theorem State.setTotal_pad2 (v : Nat) (s : State) : (s.setTotal v).pad2 = s.pad2 := rfl
@[simp] theorem State.setTotal_params (v : Nat) (s : State) : (s.setTotal v).params = s.params := rfl
@[simp] theorem State.setTotal_inputs (v : Nat) (s : State) : (s.setTotal v).inputs = s.inputs := rfl
@[simp] theorem State.setPpu_cpu (v : Ppu) (s : State) : (s.setPpu v).cpu = s.cpu := rfl
@[simp] theorem State.setPpu_ppu (v : Ppu) (s : State) : (s.setPpu v).ppu = v := rfl
@[simp] theorem State.setPpu_ram (v : Ppu) (s : State) : (s.setPpu v).ram = s.ram := rfl
@[simp] theorem State.setPpu_vram (v : Ppu) (s : State) : (s.setPpu v).vram = s.vram := rfl
@[simp] theorem State.setPpu_cart (v : Ppu) (s : State) : (s.setPpu v).cart = s.cart := rfl
@[simp] theorem State.setPpu_mapper (v : Ppu) (s : State) : (s.setPpu v).mapper = s.mapper := rfl
@[simp] theorem State.setPpu_pad1 (v : Ppu) (s : State) : (s.setPpu v).pad1 = s.pad1 := rfl
@[simp] theorem State.setPpu_pad2 (v : Ppu) (s : State) : (s.setPpu v).pad2 = s.pad2 := rfl
@[simp] theorem State.setPpu_params (v : Ppu) (s : State) : (s.setPpu v).params = s.params := rfl
@[simp] theorem State.setPpu_inputs (v : Ppu) (s : State) : (s.setPpu v).inputs = s.inputs := rfl
@[simp] theorem State.setRam_cpu (v : Memory) (s : State) : (s.setRam v).cpu = s.cpu := rfl
@[simp] theorem State.setRam_ppu (v : Memory) (s : State) : (s.setRam v).ppu = s.ppu := rfl
@[simp] theorem State.setRam_ram (v : Memory) (s : State) : (s.setRam v).ram = v := rfl
@[simp] theorem State.setRam_vram (v : Memory) (s : State) : (s.setRam v).vram = s.vram := rfl
@[simp] theorem State.setRam_cart (v : Memory) (s : State) : (s.setRam v).cart = s.cart := rfl
@[simp] theorem State.setRam_mapper (v : Memory) (s : State) : (s.setRam v).mapper = s.mapper := rfl
@[simp] theorem State.setRam_pad1 (v : Memory) (s : State) : (s.setRam v).pad1 = s.pad1 := rfl
@[simp] theorem State.setRam_pad2 (v : Memory) (s : State) : (s.setRam v).pad2 = s.pad2 := rfl
@[simp] theorem State.setRam_params (v : Memory) (s : State) : (s.setRam v).params = s.params := rfl
@[simp] theorem State.setRam_inputs (v : Memory) (s : State) : (s.setRam v).inputs = s.inputs := rfl
@[simp] theorem State.setVram_cpu (v : Memory) (s : State) : (s.setVram v).cpu = s.cpu := rfl
@[simp] theorem State.setVram_ppu (v : Memory) (s : State) : (s.setVram v).ppu = s.ppu := rfl
@[simp] theorem State.setVram_ram (v : Memory) (s : State) : (s.setVram v).ram = s.ram := rfl
@[simp] theorem State.setVram_vram (v : Memory) (s : State) : (s.setVram v).vram = v := rfl
@[simp] theorem State.setVram_cart (v : Memory) (s : State) : (s.setVram v).cart = s.cart := rfl
@[simp] theorem State.setVram_mapper (v : Memory) (s : State) : (s.setVram v).mapper = s.mapper := rfl
@[simp] theorem State.setVram_pad1 (v : Memory) (s : State) : (s.setVram v).pad1 = s.pad1 := rfl
@[simp] theorem State.setVram_pad2 (v : Memory) (s : State) : (s.setVram v).pad2 = s.pad2 := rfl
@[simp] theorem State.setVram_params (v : Memory) (s : State) : (s.setVram v).params = s.params := rfl
@[simp] theorem State.setVram_inputs (v : Memory) (s : State) : (s.setVram v).inputs = s.inputs := rfl
@[simp] theorem State.setCart_cpu (v : Cart) (s : State) : (s.setCart v).cpu = s.cpu := rfl
@[simp] theorem State.setCart_ppu (v : Cart) (s : State) : (s.setCart v).ppu = s.ppu := rfl
@[simp] theorem State.setCart_ram (v : Cart) (s : State) : (s.setCart v).ram = s.ram := rfl
@[simp] theorem State.setCart_vram (v : Cart) (s : State) : (s.setCart v).vram = s.vram := rfl
@[simp] theorem State.setCart_cart (v : Cart) (s : State) : (s.setCart v).cart = v := rfl
@[simp] theorem State.setCart_mapper (v : Cart) (s : State) : (s.setCart v).mapper = s.mapper := rfl
@[simp] theorem State.setCart_pad1 (v : Cart) (s : State) : (s.setCart v).pad1 = s.pad1 := rfl
@[simp] theorem State.setCart_pad2 (v : Cart) (s : State) : (s.setCart v).pad2 = s.pad2 := rfl
@[simp] theorem State.setCart_params (v : Cart) (s : State) : (s.setCart v).params = s.params := rfl
@[simp] theorem State.setCart_inputs (v : Cart) (s : State) : (s.setCart v).inputs = s.inputs := rfl
@[simp] theorem State.setMapper_cpu (v : Mapper) (s : State) : (s.setMapper v).cpu = s.cpu := rfl
@[simp] theorem State.setMapper_ppu (v : Mapper) (s : State) : (s.setMapper v).ppu = s.ppu := rfl
@[simp] theorem State.setMapper_ram (v : Mapper) (s : State) : (s.setMapper v).ram = s.ram := rfl
@[simp] theorem State.setMapper_vram (v : Mapper) (s : State) : (s.setMapper v).vram = s.vram := rfl
@[simp] theorem State.setMapper_cart (v : Mapper) (s : State) : (s.setMapper v).cart = s.cart := rfl
@[simp] theorem State.setMapper_mapper (v : Mapper) (s : State) : (s.setMapper v).mapper = v := rfl
@[simp] theorem State.setMapper_pad1 (v : Mapper) (s : State) : (s.setMapper v).pad1 = s.pad1 := rfl
@[simp] theorem State.setMapper_pad2 (v : Mapper) (s : State) : (s.setMapper v).pad2 = s.pad2 := rfl
@[simp] theorem State.setMapper_params (v : Mapper) (s : State) : (s.setMapper v).params = s.params := rfl
@[simp] theorem State.setMapper_inputs (v : Mapper) (s : State) : (s.setMapper v).inputs = s.inputs := rfl
@[simp] theorem State.setPad1_cpu (v : Option Pad) (s : State) : (s.setPad1 v).cpu = s.cpu := rfl
@[simp] theorem State.setPad1_ppu (v : Option Pad) (s : State) : (s.setPad1 v).ppu = s.ppu := rfl
@[simp] theorem State.setPad1_ram (v : Option Pad) (s : State) : (s.setPad1 v).ram = s.ram := rfl
@[simp] theorem State.setPad1_vram (v : Option Pad) (s : State) : (s.setPad1 v).vram = s.vram := rfl
@[simp] theorem State.setPad1_cart (v : Option Pad) (s : State) : (s.setPad1 v).cart = s.cart := rfl
@[simp] theorem State.setPad1_mapper (v : Option Pad) (s : State) : (s.setPad1 v).mapper = s.mapper := rfl
@[simp] theorem State.setPad1_pad1 (v : Option Pad) (s : State) : (s.setPad1 v).pad1 = v := rfl
@[simp] theorem State.setPad1_pad2 (v : Option Pad) (s : State) : (s.setPad1 v).pad2 = s.pad2 := rfl
@[simp] theorem State.setPad1_params (v : Option Pad) (s : State) : (s.setPad1 v).params = s.params := rfl
@[simp] theorem State.setPad1_inputs (v : Option Pad) (s : State) : (s.setPad1 v).inputs = s.inputs := rfl
@[simp] theorem State.setPad2_cpu (v : Option Pad) (s : State) : (s.setPad2 v).cpu = s.cpu := rfl
@[simp] theorem State.setPad2_ppu (v : Option Pad) (s : State) : (s.setPad2 v).ppu = s.ppu := rfl
@[simp] theorem State.setPad2_ram (v : Option Pad) (s : State) : (s.setPad2 v).ram = s.ram := rfl
@[simp] theorem State.setPad2_vram (v : Option Pad) (s : State) : (s.setPad2 v).vram = s.vram := rfl
@[simp] theorem State.setPad2_cart (v : Option Pad) (s : State) : (s.setPad2 v).cart = s.cart := rfl
@[simp] theorem State.setPad2_mapper (v : Option Pad) (s : State) : (s.setPad2 v).mapper = s.mapper := rfl
@[simp] theorem State.setPad2_pad1 (v : Option Pad) (s : State) : (s.setPad2 v).pad1 = s.pad1 := rfl
@[simp] theorem State.setPad2_pad2 (v : Option Pad) (s : State) : (s.setPad2 v).pad2 = v := rfl
@[simp] theorem State.setPad2_params (v : Option Pad) (s : State) : (s.setPad2 v).params = s.params := rfl
@[simp] theorem State.setPad2_inputs (v : Option Pad) (s : State) : (s.setPad2 v).inputs = s.inputs := rfl
@[simp] theorem State.setInputs_cpu (v : List HostInputs) (s : State) : (s.setInputs v).cpu = s.cpu := rfl
@[simp] theorem State.setInputs_ppu (v : List HostInputs) (s : State) : (s.setInputs v).ppu = s.ppu := rfl
@[simp] theorem State.setInputs_ram (v : List HostInputs) (s : State) : (s.setInputs v).ram = s.ram := rfl
@[simp] theorem State.setInputs_vram (v : List HostInputs) (s : State) : (s.setInputs v).vram = s.vram := rfl
@[simp] theorem State.setInputs_cart (v : List HostInputs) (s : State) : (s.setInputs v).cart = s.cart := rfl
@[simp] theorem State.setInputs_mapper (v : List HostInputs) (s : State) : (s.setInputs v).mapper = s.mapper := rfl
@[simp] theorem State.setInputs_pad1 (v : List HostInputs) (s : State) : (s.setInputs v).pad1 = s.pad1 := rfl
@[simp] theorem State.setInputs_pad2 (v : List HostInputs) (s : State) : (s.setInputs v).pad2 = s.pad2 := rfl
@[simp] theorem State.setInputs_params (v : List HostInputs) (s : State) : (s.setInputs v).params = s.params := rfl
@[simp] theorem State.setInputs_inputs (v : List HostInputs) (s : State) : (s.setInputs v).inputs = v := rfl

end Sys2Proof.Machine
end

