-- ==== Sys2Proof/Laws/Bus.lean ====
section
/-! SUPPORT. What a bus access can do: the byte a read returns does not depend on the CPU, a read leaves the CPU
alone, a write changes of the CPU only the pulses a DMA adds. -/

namespace Sys2Proof.Machine

/-- The same machine with another CPU. -/
def State.withCpu (c : Cpu) (s : State) : State := { s with cpu := c }

@[simp] theorem State.withCpu_cpu (c : Cpu) (s : State) : (s.withCpu c).cpu = c := rfl
@[simp] theorem State.withCpu_ppu (c : Cpu) (s : State) : (s.withCpu c).ppu = s.ppu := rfl
@[simp] theorem State.withCpu_ram (c : Cpu) (s : State) : (s.withCpu c).ram = s.ram := rfl
@[simp] theorem State.withCpu_vram (c : Cpu) (s : State) : (s.withCpu c).vram = s.vram := rfl
@[simp] theorem State.withCpu_cart (c : Cpu) (s : State) : (s.withCpu c).cart = s.cart := rfl
@[simp] theorem State.withCpu_mapper (c : Cpu) (s : State) : (s.withCpu c).mapper = s.mapper := rfl
@[simp] theorem State.withCpu_pad1 (c : Cpu) (s : State) : (s.withCpu c).pad1 = s.pad1 := rfl
@[simp] theorem State.withCpu_pad2 (c : Cpu) (s : State) : (s.withCpu c).pad2 = s.pad2 := rfl
@[simp] theorem State.withCpu_params (c : Cpu) (s : State) : (s.withCpu c).params = s.params := rfl
@[simp] theorem State.withCpu_inputs (c : Cpu) (s : State) : (s.withCpu c).inputs = s.inputs := rfl
@[simp] theorem State.withCpu_withCpu (c d : Cpu) (s : State) : (s.withCpu c).withCpu d = s.withCpu d := rfl
@[simp] theorem State.withCpu_self (s : State) : s.withCpu s.cpu = s := rfl

/-- Two machines with the same CPU and the same rest are one. -/
theorem State.eq_withCpu {s t : State} (h : OutsideIs s t) : t = s.withCpu t.cpu := by
  obtain ⟨h1, h2, h3, h4, h5, h6, h7, h8, h9⟩ := h
  cases s; cases t
  simp only at h1 h2 h3 h4 h5 h6 h7 h8 h9
  subst h1 h2 h3 h4 h5 h6 h7 h8 h9
  rfl

theorem OutsideIs.refl (s : State) : OutsideIs s s := ⟨rfl, rfl, rfl, rfl, rfl, rfl, rfl, rfl, rfl⟩

theorem OutsideIs.trans {s t u : State} (h : OutsideIs s t) (k : OutsideIs t u) : OutsideIs s u := by
  obtain ⟨h1, h2, h3, h4, h5, h6, h7, h8, h9⟩ := h
  obtain ⟨k1, k2, k3, k4, k5, k6, k7, k8, k9⟩ := k
  exact ⟨k1.trans h1, k2.trans h2, k3.trans h3, k4.trans h4, k5.trans h5, k6.trans h6, k7.trans h7, k8.trans h8,
    k9.trans h9⟩

theorem busPeek_withCpu (c : Cpu) (s : State) (a : Addr) : busPeek (s.withCpu c) a = busPeek s a := rfl

theorem busTouch_withCpu (c : Cpu) (s : State) (a : Addr) :
    busTouch (s.withCpu c) a = (busTouch s a).withCpu c := by
  unfold busTouch ppuRegTouch
  split
  · rfl
  · split <;> rfl
  all_goals rfl

/-- A read leaves the CPU alone. -/
@[simp] theorem busTouch_cpu (s : State) (a : Addr) : (busTouch s a).cpu = s.cpu := by
  unfold busTouch ppuRegTouch
  split
  · rfl
  · split <;> rfl
  all_goals rfl

/-- A read touches the PPU registers and the controllers and nothing else. -/
theorem busTouch_keeps (s : State) (a : Addr) :
    (busTouch s a).ram = s.ram ∧ (busTouch s a).vram = s.vram ∧ (busTouch s a).cart = s.cart ∧
      (busTouch s a).mapper = s.mapper ∧ (busTouch s a).params = s.params ∧ (busTouch s a).inputs = s.inputs := by
  unfold busTouch ppuRegTouch
  split
  · simp
  · split <;> simp
  all_goals simp

@[simp] theorem busTouch_ram (s : State) (a : Addr) : (busTouch s a).ram = s.ram := (busTouch_keeps s a).1
@[simp] theorem busTouch_vram (s : State) (a : Addr) : (busTouch s a).vram = s.vram := (busTouch_keeps s a).2.1
@[simp] theorem busTouch_cart (s : State) (a : Addr) : (busTouch s a).cart = s.cart := (busTouch_keeps s a).2.2.1
@[simp] theorem busTouch_mapper (s : State) (a : Addr) : (busTouch s a).mapper = s.mapper := (busTouch_keeps s a).2.2.2.1
@[simp] theorem busTouch_params (s : State) (a : Addr) : (busTouch s a).params = s.params := (busTouch_keeps s a).2.2.2.2.1
@[simp] theorem busTouch_inputs (s : State) (a : Addr) : (busTouch s a).inputs = s.inputs := (busTouch_keeps s a).2.2.2.2.2

theorem dmaByte_withCpu (page i : Byte) (c : Cpu) (s : State) :
    dmaByte page i (s.withCpu c) = (dmaByte page i s).withCpu c := by
  simp only [dmaByte, busPeek_withCpu, busTouch_withCpu]
  rfl

theorem dmaBytes_withCpu (page : Byte) (n i : Nat) (c : Cpu) (s : State) :
    dmaBytes page n i (s.withCpu c) = (dmaBytes page n i s).withCpu c := by
  induction n generalizing i s with
  | zero => rfl
  | succ n ih => simp only [dmaBytes, dmaByte_withCpu, ih]

@[simp] theorem dmaByte_cpu (page i : Byte) (s : State) : (dmaByte page i s).cpu = s.cpu := by simp [dmaByte]

@[simp] theorem dmaBytes_cpu (page : Byte) (n i : Nat) (s : State) : (dmaBytes page n i s).cpu = s.cpu := by
  induction n generalizing i s with
  | zero => rfl
  | succ n ih => simp [dmaBytes, ih]

theorem dmaBytes_keeps (page : Byte) (n i : Nat) (s : State) :
    (dmaBytes page n i s).ram = s.ram ∧ (dmaBytes page n i s).vram = s.vram ∧
      (dmaBytes page n i s).cart = s.cart ∧ (dmaBytes page n i s).mapper = s.mapper ∧
      (dmaBytes page n i s).params = s.params ∧ (dmaBytes page n i s).inputs = s.inputs := by
  induction n generalizing i s with
  | zero => simp [dmaBytes]
  | succ n ih => simpa [dmaBytes, dmaByte] using ih (i + 1) (dmaByte page (BitVec.ofNat 8 i) s)

theorem mapperCpuWrite_withCpu (c : Cpu) (s : State) (a : Nat) (v : Byte) :
    mapperCpuWrite (s.withCpu c) a v = (mapperCpuWrite s a v).withCpu c := by
  unfold mapperCpuWrite
  simp only [State.withCpu_mapper, State.withCpu_cart]
  split
  · show (if prgRamEnabled s = true then _ else _) = _
    split <;> rfl
  · split <;> rfl

theorem mapperCpuWrite_keeps (s : State) (a : Nat) (v : Byte) :
    (mapperCpuWrite s a v).cpu = s.cpu ∧ (mapperCpuWrite s a v).ppu = s.ppu ∧ (mapperCpuWrite s a v).ram = s.ram ∧
      (mapperCpuWrite s a v).vram = s.vram ∧ (mapperCpuWrite s a v).pad1 = s.pad1 ∧
      (mapperCpuWrite s a v).pad2 = s.pad2 ∧ (mapperCpuWrite s a v).params = s.params ∧
      (mapperCpuWrite s a v).inputs = s.inputs := by
  unfold mapperCpuWrite prgRamWrite
  split
  · split <;> simp
  · split <;> simp

theorem ppuWr_withCpu (c : Cpu) (s : State) (a : BitVec 14) (v : Byte) :
    ppuWr (s.withCpu c) a v = (ppuWr s a v).withCpu c := by
  unfold ppuWr mapperPpuWrite
  split
  · show (if chrIsRam s.cart = true then _ else _) = _
    split <;> rfl
  · rfl

theorem ppuWr_keeps (s : State) (a : BitVec 14) (v : Byte) :
    (ppuWr s a v).cpu = s.cpu ∧ (ppuWr s a v).ppu = s.ppu ∧ (ppuWr s a v).ram = s.ram ∧
      (ppuWr s a v).mapper = s.mapper ∧ (ppuWr s a v).pad1 = s.pad1 ∧ (ppuWr s a v).pad2 = s.pad2 ∧
      (ppuWr s a v).params = s.params ∧ (ppuWr s a v).inputs = s.inputs := by
  unfold ppuWr mapperPpuWrite vramWrite chrWrite
  split
  · split <;> simp
  · simp

theorem dataPortStore_withCpu (c : Cpu) (s : State) (v : Byte) :
    dataPortStore (s.withCpu c) v = (dataPortStore s v).withCpu c := by
  unfold dataPortStore
  simp only [State.withCpu_ppu, ppuWr_withCpu]
  split <;> rfl

theorem dataPortStore_keeps (s : State) (v : Byte) :
    (dataPortStore s v).cpu = s.cpu ∧ (dataPortStore s v).ram = s.ram ∧ (dataPortStore s v).mapper = s.mapper ∧
      (dataPortStore s v).pad1 = s.pad1 ∧ (dataPortStore s v).pad2 = s.pad2 ∧
      (dataPortStore s v).params = s.params ∧ (dataPortStore s v).inputs = s.inputs := by
  unfold dataPortStore
  split
  · simp
  · have h := ppuWr_keeps s (dataPortAddr s.ppu) v
    simp [h]

theorem dataPortWrite_withCpu (c : Cpu) (s : State) (v : Byte) :
    dataPortWrite (s.withCpu c) v = (dataPortWrite s v).withCpu c := by
  unfold dataPortWrite
  rw [dataPortStore_withCpu]
  rfl

theorem ppuRegWrite_withCpu (c : Cpu) (s : State) (r : Nat) (v : Byte) :
    ppuRegWrite (s.withCpu c) r v = (ppuRegWrite s r v).withCpu c := by
  unfold ppuRegWrite
  split
  all_goals first | rfl | exact dataPortWrite_withCpu ..

theorem ppuRegWrite_keeps (s : State) (r : Nat) (v : Byte) :
    (ppuRegWrite s r v).cpu = s.cpu ∧ (ppuRegWrite s r v).ram = s.ram ∧ (ppuRegWrite s r v).mapper = s.mapper ∧
      (ppuRegWrite s r v).pad1 = s.pad1 ∧ (ppuRegWrite s r v).pad2 = s.pad2 ∧
      (ppuRegWrite s r v).params = s.params ∧ (ppuRegWrite s r v).inputs = s.inputs := by
  have h := dataPortStore_keeps s v
  unfold ppuRegWrite dataPortWrite
  split
  all_goals simp [h]

theorem busRegion_oamDma (a : Addr) : busRegion a = .oamDma ↔ a = 0x4014#16 := by
  constructor
  · intro h
    unfold busRegion at h
    apply BitVec.eq_of_toNat_eq
    repeat' split at h
    all_goals first | assumption | exact BusRegion.noConfusion h
  · rintro rfl
    rfl

/-- What a write does to the CPU: the pulses of a DMA are added, nothing else. -/
theorem busWrite_withCpu (c : Cpu) (s : State) (a : Addr) (v : Byte) (h : c.total = s.cpu.total) :
    busWrite (s.withCpu c) a v = (busWrite s a v).withCpu { c with cyc := c.cyc + stallPulses s a } := by
  have hz : busRegion a ≠ .oamDma → stallPulses s a = 0 := fun hn =>
    if_neg fun ha => hn ((busRegion_oamDma a).2 ha)
  unfold busWrite
  split
  case h_3 hr =>
    have ha := (busRegion_oamDma a).1 hr
    unfold oamDma
    rw [dmaBytes_withCpu]
    have hst : stallPulses s a = 513 + c.total % 2 := by
      rw [h]
      unfold stallPulses
      rw [if_pos ha]
      split <;> omega
    rw [hst]
    rfl
  all_goals
    rename_i hr
    rw [hz (by rw [hr]; exact BusRegion.noConfusion)]
  · rfl
  · exact ppuRegWrite_withCpu ..
  · rfl
  · rfl
  · rfl
  · exact mapperCpuWrite_withCpu ..

theorem busWrite_cpu (s : State) (a : Addr) (v : Byte) :
    (busWrite s a v).cpu = { s.cpu with cyc := s.cpu.cyc + stallPulses s a } := by
  have h := congrArg State.cpu (busWrite_withCpu s.cpu s a v rfl)
  rwa [State.withCpu_self] at h

@[simp] theorem busWrite_cpu_a (s : State) (a : Addr) (v : Byte) : (busWrite s a v).cpu.a = s.cpu.a := by
  rw [busWrite_cpu]
@[simp] theorem busWrite_cpu_x (s : State) (a : Addr) (v : Byte) : (busWrite s a v).cpu.x = s.cpu.x := by
  rw [busWrite_cpu]
@[simp] theorem busWrite_cpu_y (s : State) (a : Addr) (v : Byte) : (busWrite s a v).cpu.y = s.cpu.y := by
  rw [busWrite_cpu]
@[simp] theorem busWrite_cpu_s (s : State) (a : Addr) (v : Byte) : (busWrite s a v).cpu.s = s.cpu.s := by
  rw [busWrite_cpu]
@[simp] theorem busWrite_cpu_p (s : State) (a : Addr) (v : Byte) : (busWrite s a v).cpu.p = s.cpu.p := by
  rw [busWrite_cpu]
@[simp] theorem busWrite_cpu_pc (s : State) (a : Addr) (v : Byte) : (busWrite s a v).cpu.pc = s.cpu.pc := by
  rw [busWrite_cpu]
@[simp] theorem busWrite_cpu_fetched (s : State) (a : Addr) (v : Byte) : (busWrite s a v).cpu.fetched = s.cpu.fetched := by
  rw [busWrite_cpu]
@[simp] theorem busWrite_cpu_addr (s : State) (a : Addr) (v : Byte) : (busWrite s a v).cpu.addr = s.cpu.addr := by
  rw [busWrite_cpu]
@[simp] theorem busWrite_cpu_total (s : State) (a : Addr) (v : Byte) : (busWrite s a v).cpu.total = s.cpu.total := by
  rw [busWrite_cpu]
@[simp] theorem busWrite_cpu_cyc (s : State) (a : Addr) (v : Byte) :
    (busWrite s a v).cpu.cyc = s.cpu.cyc + stallPulses s a := by
  rw [busWrite_cpu]

/-- A write at an address other than $4014 leaves the CPU alone. -/
theorem busWrite_cpu_eq (s : State) (a : Addr) (v : Byte) (h : a ≠ 0x4014#16) : (busWrite s a v).cpu = s.cpu := by
  rw [busWrite_cpu, stallPulses, if_neg h]
  rfl

/-- A write leaves the launch parameters and the host's inputs alone. -/
theorem busWrite_keeps (s : State) (a : Addr) (v : Byte) :
    (busWrite s a v).params = s.params ∧ (busWrite s a v).inputs = s.inputs := by
  have h1 := ppuRegWrite_keeps s (ppuRegIndex a) v
  have h2 := dmaBytes_keeps v 256 0 s
  have h3 := mapperCpuWrite_keeps s a.toNat v
  unfold busWrite oamDma stallForDma State.addCyc ramWrite
  split <;> simp [h1, h2, h3]

@[simp] theorem busWrite_params (s : State) (a : Addr) (v : Byte) : (busWrite s a v).params = s.params :=
  (busWrite_keeps s a v).1
@[simp] theorem busWrite_inputs (s : State) (a : Addr) (v : Byte) : (busWrite s a v).inputs = s.inputs :=
  (busWrite_keeps s a v).2

@[simp] theorem busPeek_setA (v : Byte) (s : State) (a : Addr) : busPeek (s.setA v) a = busPeek s a := rfl
@[simp] theorem busTouch_setA (v : Byte) (s : State) (a : Addr) :
    busTouch (s.setA v) a = (busTouch s a).setA v := by
  rw [show s.setA v = s.withCpu (s.setA v).cpu from rfl, busTouch_withCpu]
  simp [State.withCpu, State.setA]
@[simp] theorem busPeek_setX (v : Byte) (s : State) (a : Addr) : busPeek (s.setX v) a = busPeek s a := rfl
@[simp] theorem busTouch_setX (v : Byte) (s : State) (a : Addr) :
    busTouch (s.setX v) a = (busTouch s a).setX v := by
  rw [show s.setX v = s.withCpu (s.setX v).cpu from rfl, busTouch_withCpu]
  simp [State.withCpu, State.setX]
@[simp] theorem busPeek_setY (v : Byte) (s : State) (a : Addr) : busPeek (s.setY v) a = busPeek s a := rfl
@[simp] theorem busTouch_setY (v : Byte) (s : State) (a : Addr) :
    busTouch (s.setY v) a = (busTouch s a).setY v := by
  rw [show s.setY v = s.withCpu (s.setY v).cpu from rfl, busTouch_withCpu]
  simp [State.withCpu, State.setY]
@[simp] theorem busPeek_setS (v : Byte) (s : State) (a : Addr) : busPeek (s.setS v) a = busPeek s a := rfl
@[simp] theorem busTouch_setS (v : Byte) (s : State) (a : Addr) :
    busTouch (s.setS v) a = (busTouch s a).setS v := by
  rw [show s.setS v = s.withCpu (s.setS v).cpu from rfl, busTouch_withCpu]
  simp [State.withCpu, State.setS]
@[simp] theorem busPeek_setP (v : Byte) (s : State) (a : Addr) : busPeek (s.setP v) a = busPeek s a := rfl
@[simp] theorem busTouch_setP (v : Byte) (s : State) (a : Addr) :
    busTouch (s.setP v) a = (busTouch s a).setP v := by
  rw [show s.setP v = s.withCpu (s.setP v).cpu from rfl, busTouch_withCpu]
  simp [State.withCpu, State.setP]
@[simp] theorem busPeek_setPc (v : Addr) (s : State) (a : Addr) : busPeek (s.setPc v) a = busPeek s a := rfl
@[simp] theorem busTouch_setPc (v : Addr) (s : State) (a : Addr) :
    busTouch (s.setPc v) a = (busTouch s a).setPc v := by
  rw [show s.setPc v = s.withCpu (s.setPc v).cpu from rfl, busTouch_withCpu]
  simp [State.withCpu, State.setPc]
@[simp] theorem busPeek_setFetched (v : Byte) (s : State) (a : Addr) : busPeek (s.setFetched v) a = busPeek s a := rfl
@[simp] theorem busTouch_setFetched (v : Byte) (s : State) (a : Addr) :
    busTouch (s.setFetched v) a = (busTouch s a).setFetched v := by
  rw [show s.setFetched v = s.withCpu (s.setFetched v).cpu from rfl, busTouch_withCpu]
  simp [State.withCpu, State.setFetched]
@[simp] theorem busPeek_setAddr (v : Addr) (s : State) (a : Addr) : busPeek (s.setAddr v) a = busPeek s a := rfl
@[simp] theorem busTouch_setAddr (v : Addr) (s : State) (a : Addr) :
    busTouch (s.setAddr v) a = (busTouch s a).setAddr v := by
  rw [show s.setAddr v = s.withCpu (s.setAddr v).cpu from rfl, busTouch_withCpu]
  simp [State.withCpu, State.setAddr]
@[simp] theorem busPeek_setCyc (v : Nat) (s : State) (a : Addr) : busPeek (s.setCyc v) a = busPeek s a := rfl
@[simp] theorem busTouch_setCyc (v : Nat) (s : State) (a : Addr) :
    busTouch (s.setCyc v) a = (busTouch s a).setCyc v := by
  rw [show s.setCyc v = s.withCpu (s.setCyc v).cpu from rfl, busTouch_withCpu]
  simp [State.withCpu, State.setCyc]
@[simp] theorem busPeek_setTotal (v : Nat) (s : State) (a : Addr) : busPeek (s.setTotal v) a = busPeek s a := rfl
@[simp] theorem busTouch_setTotal (v : Nat) (s : State) (a : Addr) :
    busTouch (s.setTotal v) a = (busTouch s a).setTotal v := by
  rw [show s.setTotal v = s.withCpu (s.setTotal v).cpu from rfl, busTouch_withCpu]
  simp [State.withCpu, State.setTotal]
theorem busWrite_withCpu_out (c : Cpu) (s : State) (a : Addr) (v : Byte) (h : c.total = s.cpu.total) :
    OutsideIs (busWrite s a v) (busWrite (s.withCpu c) a v) := by
  rw [busWrite_withCpu c s a v h]
  exact OutsideIs.refl _

theorem busWrite_setA_out (v : Byte) (s : State) (a : Addr) (b : Byte) :
    OutsideIs (busWrite s a b) (busWrite (s.setA v) a b) := busWrite_withCpu_out (s.setA v).cpu s a b rfl
@[simp] theorem busWrite_setA_ppu (v : Byte) (s : State) (a : Addr) (b : Byte) :
    (busWrite (s.setA v) a b).ppu = (busWrite s a b).ppu := (busWrite_setA_out v s a b).1
@[simp] theorem busWrite_setA_ram (v : Byte) (s : State) (a : Addr) (b : Byte) :
    (busWrite (s.setA v) a b).ram = (busWrite s a b).ram := (busWrite_setA_out v s a b).2.1
@[simp] theorem busWrite_setA_vram (v : Byte) (s : State) (a : Addr) (b : Byte) :
    (busWrite (s.setA v) a b).vram = (busWrite s a b).vram := (busWrite_setA_out v s a b).2.2.1
@[simp] theorem busWrite_setA_cart (v : Byte) (s : State) (a : Addr) (b : Byte) :
    (busWrite (s.setA v) a b).cart = (busWrite s a b).cart := (busWrite_setA_out v s a b).2.2.2.1
@[simp] theorem busWrite_setA_mapper (v : Byte) (s : State) (a : Addr) (b : Byte) :
    (busWrite (s.setA v) a b).mapper = (busWrite s a b).mapper := (busWrite_setA_out v s a b).2.2.2.2.1
@[simp] theorem busWrite_setA_pad1 (v : Byte) (s : State) (a : Addr) (b : Byte) :
    (busWrite (s.setA v) a b).pad1 = (busWrite s a b).pad1 := (busWrite_setA_out v s a b).2.2.2.2.2.1
@[simp] theorem busWrite_setA_pad2 (v : Byte) (s : State) (a : Addr) (b : Byte) :
    (busWrite (s.setA v) a b).pad2 = (busWrite s a b).pad2 := (busWrite_setA_out v s a b).2.2.2.2.2.2.1
@[simp] theorem stallPulses_setA (v : Byte) (s : State) (a : Addr) : stallPulses (s.setA v) a = stallPulses s a := rfl
theorem busWrite_setX_out (v : Byte) (s : State) (a : Addr) (b : Byte) :
    OutsideIs (busWrite s a b) (busWrite (s.setX v) a b) := busWrite_withCpu_out (s.setX v).cpu s a b rfl
@[simp] theorem busWrite_setX_ppu (v : Byte) (s : State) (a : Addr) (b : Byte) :
    (busWrite (s.setX v) a b).ppu = (busWrite s a b).ppu := (busWrite_setX_out v s a b).1
@[simp] theorem busWrite_setX_ram (v : Byte) (s : State) (a : Addr) (b : Byte) :
    (busWrite (s.setX v) a b).ram = (busWrite s a b).ram := (busWrite_setX_out v s a b).2.1
@[simp] theorem busWrite_setX_vram (v : Byte) (s : State) (a : Addr) (b : Byte) :
    (busWrite (s.setX v) a b).vram = (busWrite s a b).vram := (busWrite_setX_out v s a b).2.2.1
@[simp] theorem busWrite_setX_cart (v : Byte) (s : State) (a : Addr) (b : Byte) :
    (busWrite (s.setX v) a b).cart = (busWrite s a b).cart := (busWrite_setX_out v s a b).2.2.2.1
@[simp] theorem busWrite_setX_mapper (v : Byte) (s : State) (a : Addr) (b : Byte) :
    (busWrite (s.setX v) a b).mapper = (busWrite s a b).mapper := (busWrite_setX_out v s a b).2.2.2.2.1
@[simp] theorem busWrite_setX_pad1 (v : Byte) (s : State) (a : Addr) (b : Byte) :
    (busWrite (s.setX v) a b).pad1 = (busWrite s a b).pad1 := (busWrite_setX_out v s a b).2.2.2.2.2.1
@[simp] theorem busWrite_setX_pad2 (v : Byte) (s : State) (a : Addr) (b : Byte) :
    (busWrite (s.setX v) a b).pad2 = (busWrite s a b).pad2 := (busWrite_setX_out v s a b).2.2.2.2.2.2.1
@[simp] theorem stallPulses_setX (v : Byte) (s : State) (a : Addr) : stallPulses (s.setX v) a = stallPulses s a := rfl
theorem busWrite_setY_out (v : Byte) (s : State) (a : Addr) (b : Byte) :
    OutsideIs (busWrite s a b) (busWrite (s.setY v) a b) := busWrite_withCpu_out (s.setY v).cpu s a b rfl
@[simp] theorem busWrite_setY_ppu (v : Byte) (s : State) (a : Addr) (b : Byte) :
    (busWrite (s.setY v) a b).ppu = (busWrite s a b).ppu := (busWrite_setY_out v s a b).1
@[simp] theorem busWrite_setY_ram (v : Byte) (s : State) (a : Addr) (b : Byte) :
    (busWrite (s.setY v) a b).ram = (busWrite s a b).ram := (busWrite_setY_out v s a b).2.1
@[simp] theorem busWrite_setY_vram (v : Byte) (s : State) (a : Addr) (b : Byte) :
    (busWrite (s.setY v) a b).vram = (busWrite s a b).vram := (busWrite_setY_out v s a b).2.2.1
@[simp] theorem busWrite_setY_cart (v : Byte) (s : State) (a : Addr) (b : Byte) :
    (busWrite (s.setY v) a b).cart = (busWrite s a b).cart := (busWrite_setY_out v s a b).2.2.2.1
@[simp] theorem busWrite_setY_mapper (v : Byte) (s : State) (a : Addr) (b : Byte) :
    (busWrite (s.setY v) a b).mapper = (busWrite s a b).mapper := (busWrite_setY_out v s a b).2.2.2.2.1
@[simp] theorem busWrite_setY_pad1 (v : Byte) (s : State) (a : Addr) (b : Byte) :
    (busWrite (s.setY v) a b).pad1 = (busWrite s a b).pad1 := (busWrite_setY_out v s a b).2.2.2.2.2.1
@[simp] theorem busWrite_setY_pad2 (v : Byte) (s : State) (a : Addr) (b : Byte) :
    (busWrite (s.setY v) a b).pad2 = (busWrite s a b).pad2 := (busWrite_setY_out v s a b).2.2.2.2.2.2.1
@[simp] theorem stallPulses_setY (v : Byte) (s : State) (a : Addr) : stallPulses (s.setY v) a = stallPulses s a := rfl
theorem busWrite_setS_out (v : Byte) (s : State) (a : Addr) (b : Byte) :
    OutsideIs (busWrite s a b) (busWrite (s.setS v) a b) := busWrite_withCpu_out (s.setS v).cpu s a b rfl
@[simp] theorem busWrite_setS_ppu (v : Byte) (s : State) (a : Addr) (b : Byte) :
    (busWrite (s.setS v) a b).ppu = (busWrite s a b).ppu := (busWrite_setS_out v s a b).1
@[simp] theorem busWrite_setS_ram (v : Byte) (s : State) (a : Addr) (b : Byte) :
    (busWrite (s.setS v) a b).ram = (busWrite s a b).ram := (busWrite_setS_out v s a b).2.1
@[simp] theorem busWrite_setS_vram (v : Byte) (s : State) (a : Addr) (b : Byte) :
    (busWrite (s.setS v) a b).vram = (busWrite s a b).vram := (busWrite_setS_out v s a b).2.2.1
@[simp] theorem busWrite_setS_cart (v : Byte) (s : State) (a : Addr) (b : Byte) :
    (busWrite (s.setS v) a b).cart = (busWrite s a b).cart := (busWrite_setS_out v s a b).2.2.2.1
@[simp] theorem busWrite_setS_mapper (v : Byte) (s : State) (a : Addr) (b : Byte) :
    (busWrite (s.setS v) a b).mapper = (busWrite s a b).mapper := (busWrite_setS_out v s a b).2.2.2.2.1
@[simp] theorem busWrite_setS_pad1 (v : Byte) (s : State) (a : Addr) (b : Byte) :
    (busWrite (s.setS v) a b).pad1 = (busWrite s a b).pad1 := (busWrite_setS_out v s a b).2.2.2.2.2.1
@[simp] theorem busWrite_setS_pad2 (v : Byte) (s : State) (a : Addr) (b : Byte) :
    (busWrite (s.setS v) a b).pad2 = (busWrite s a b).pad2 := (busWrite_setS_out v s a b).2.2.2.2.2.2.1
@[simp] theorem stallPulses_setS (v : Byte) (s : State) (a : Addr) : stallPulses (s.setS v) a = stallPulses s a := rfl
theorem busWrite_setP_out (v : Byte) (s : State) (a : Addr) (b : Byte) :
    OutsideIs (busWrite s a b) (busWrite (s.setP v) a b) := busWrite_withCpu_out (s.setP v).cpu s a b rfl
@[simp] theorem busWrite_setP_ppu (v : Byte) (s : State) (a : Addr) (b : Byte) :
    (busWrite (s.setP v) a b).ppu = (busWrite s a b).ppu := (busWrite_setP_out v s a b).1
@[simp] theorem busWrite_setP_ram (v : Byte) (s : State) (a : Addr) (b : Byte) :
    (busWrite (s.setP v) a b).ram = (busWrite s a b).ram := (busWrite_setP_out v s a b).2.1
@[simp] theorem busWrite_setP_vram (v : Byte) (s : State) (a : Addr) (b : Byte) :
    (busWrite (s.setP v) a b).vram = (busWrite s a b).vram := (busWrite_setP_out v s a b).2.2.1
@[simp] theorem busWrite_setP_cart (v : Byte) (s : State) (a : Addr) (b : Byte) :
    (busWrite (s.setP v) a b).cart = (busWrite s a b).cart := (busWrite_setP_out v s a b).2.2.2.1
@[simp] theorem busWrite_setP_mapper (v : Byte) (s : State) (a : Addr) (b : Byte) :
    (busWrite (s.setP v) a b).mapper = (busWrite s a b).mapper := (busWrite_setP_out v s a b).2.2.2.2.1
@[simp] theorem busWrite_setP_pad1 (v : Byte) (s : State) (a : Addr) (b : Byte) :
    (busWrite (s.setP v) a b).pad1 = (busWrite s a b).pad1 := (busWrite_setP_out v s a b).2.2.2.2.2.1
@[simp] theorem busWrite_setP_pad2 (v : Byte) (s : State) (a : Addr) (b : Byte) :
    (busWrite (s.setP v) a b).pad2 = (busWrite s a b).pad2 := (busWrite_setP_out v s a b).2.2.2.2.2.2.1
@[simp] theorem stallPulses_setP (v : Byte) (s : State) (a : Addr) : stallPulses (s.setP v) a = stallPulses s a := rfl
theorem busWrite_setPc_out (v : Addr) (s : State) (a : Addr) (b : Byte) :
    OutsideIs (busWrite s a b) (busWrite (s.setPc v) a b) := busWrite_withCpu_out (s.setPc v).cpu s a b rfl
@[simp] theorem busWrite_setPc_ppu (v : Addr) (s : State) (a : Addr) (b : Byte) :
    (busWrite (s.setPc v) a b).ppu = (busWrite s a b).ppu := (busWrite_setPc_out v s a b).1
@[simp] theorem busWrite_setPc_ram (v : Addr) (s : State) (a : Addr) (b : Byte) :
    (busWrite (s.setPc v) a b).ram = (busWrite s a b).ram := (busWrite_setPc_out v s a b).2.1
@[simp] theorem busWrite_setPc_vram (v : Addr) (s : State) (a : Addr) (b : Byte) :
    (busWrite (s.setPc v) a b).vram = (busWrite s a b).vram := (busWrite_setPc_out v s a b).2.2.1
@[simp] theorem busWrite_setPc_cart (v : Addr) (s : State) (a : Addr) (b : Byte) :
    (busWrite (s.setPc v) a b).cart = (busWrite s a b).cart := (busWrite_setPc_out v s a b).2.2.2.1
@[simp] theorem busWrite_setPc_mapper (v : Addr) (s : State) (a : Addr) (b : Byte) :
    (busWrite (s.setPc v) a b).mapper = (busWrite s a b).mapper := (busWrite_setPc_out v s a b).2.2.2.2.1
@[simp] theorem busWrite_setPc_pad1 (v : Addr) (s : State) (a : Addr) (b : Byte) :
    (busWrite (s.setPc v) a b).pad1 = (busWrite s a b).pad1 := (busWrite_setPc_out v s a b).2.2.2.2.2.1
@[simp] theorem busWrite_setPc_pad2 (v : Addr) (s : State) (a : Addr) (b : Byte) :
    (busWrite (s.setPc v) a b).pad2 = (busWrite s a b).pad2 := (busWrite_setPc_out v s a b).2.2.2.2.2.2.1
@[simp] theorem stallPulses_setPc (v : Addr) (s : State) (a : Addr) : stallPulses (s.setPc v) a = stallPulses s a := rfl
theorem busWrite_setFetched_out (v : Byte) (s : State) (a : Addr) (b : Byte) :
    OutsideIs (busWrite s a b) (busWrite (s.setFetched v) a b) := busWrite_withCpu_out (s.setFetched v).cpu s a b rfl
@[simp] theorem busWrite_setFetched_ppu (v : Byte) (s : State) (a : Addr) (b : Byte) :
    (busWrite (s.setFetched v) a b).ppu = (busWrite s a b).ppu := (busWrite_setFetched_out v s a b).1
@[simp] theorem busWrite_setFetched_ram (v : Byte) (s : State) (a : Addr) (b : Byte) :
    (busWrite (s.setFetched v) a b).ram = (busWrite s a b).ram := (busWrite_setFetched_out v s a b).2.1
@[simp] theorem busWrite_setFetched_vram (v : Byte) (s : State) (a : Addr) (b : Byte) :
    (busWrite (s.setFetched v) a b).vram = (busWrite s a b).vram := (busWrite_setFetched_out v s a b).2.2.1
@[simp] theorem busWrite_setFetched_cart (v : Byte) (s : State) (a : Addr) (b : Byte) :
    (busWrite (s.setFetched v) a b).cart = (busWrite s a b).cart := (busWrite_setFetched_out v s a b).2.2.2.1
@[simp] theorem busWrite_setFetched_mapper (v : Byte) (s : State) (a : Addr) (b : Byte) :
    (busWrite (s.setFetched v) a b).mapper = (busWrite s a b).mapper := (busWrite_setFetched_out v s a b).2.2.2.2.1
@[simp] theorem busWrite_setFetched_pad1 (v : Byte) (s : State) (a : Addr) (b : Byte) :
    (busWrite (s.setFetched v) a b).pad1 = (busWrite s a b).pad1 := (busWrite_setFetched_out v s a b).2.2.2.2.2.1
@[simp] theorem busWrite_setFetched_pad2 (v : Byte) (s : State) (a : Addr) (b : Byte) :
    (busWrite (s.setFetched v) a b).pad2 = (busWrite s a b).pad2 := (busWrite_setFetched_out v s a b).2.2.2.2.2.2.1
@[simp] theorem stallPulses_setFetched (v : Byte) (s : State) (a : Addr) : stallPulses (s.setFetched v) a = stallPulses s a := rfl
theorem busWrite_setAddr_out (v : Addr) (s : State) (a : Addr) (b : Byte) :
    OutsideIs (busWrite s a b) (busWrite (s.setAddr v) a b) := busWrite_withCpu_out (s.setAddr v).cpu s a b rfl
@[simp] theorem busWrite_setAddr_ppu (v : Addr) (s : State) (a : Addr) (b : Byte) :
    (busWrite (s.setAddr v) a b).ppu = (busWrite s a b).ppu := (busWrite_setAddr_out v s a b).1
@[simp] theorem busWrite_setAddr_ram (v : Addr) (s : State) (a : Addr) (b : Byte) :
    (busWrite (s.setAddr v) a b).ram = (busWrite s a b).ram := (busWrite_setAddr_out v s a b).2.1
@[simp] theorem busWrite_setAddr_vram (v : Addr) (s : State) (a : Addr) (b : Byte) :
    (busWrite (s.setAddr v) a b).vram = (busWrite s a b).vram := (busWrite_setAddr_out v s a b).2.2.1
@[simp] theorem busWrite_setAddr_cart (v : Addr) (s : State) (a : Addr) (b : Byte) :
    (busWrite (s.setAddr v) a b).cart = (busWrite s a b).cart := (busWrite_setAddr_out v s a b).2.2.2.1
@[simp] theorem busWrite_setAddr_mapper (v : Addr) (s : State) (a : Addr) (b : Byte) :
    (busWrite (s.setAddr v) a b).mapper = (busWrite s a b).mapper := (busWrite_setAddr_out v s a b).2.2.2.2.1
@[simp] theorem busWrite_setAddr_pad1 (v : Addr) (s : State) (a : Addr) (b : Byte) :
    (busWrite (s.setAddr v) a b).pad1 = (busWrite s a b).pad1 := (busWrite_setAddr_out v s a b).2.2.2.2.2.1
@[simp] theorem busWrite_setAddr_pad2 (v : Addr) (s : State) (a : Addr) (b : Byte) :
    (busWrite (s.setAddr v) a b).pad2 = (busWrite s a b).pad2 := (busWrite_setAddr_out v s a b).2.2.2.2.2.2.1
@[simp] theorem stallPulses_setAddr (v : Addr) (s : State) (a : Addr) : stallPulses (s.setAddr v) a = stallPulses s a := rfl
theorem busWrite_setCyc_out (v : Nat) (s : State) (a : Addr) (b : Byte) :
    OutsideIs (busWrite s a b) (busWrite (s.setCyc v) a b) := busWrite_withCpu_out (s.setCyc v).cpu s a b rfl
@[simp] theorem busWrite_setCyc_ppu (v : Nat) (s : State) (a : Addr) (b : Byte) :
    (busWrite (s.setCyc v) a b).ppu = (busWrite s a b).ppu := (busWrite_setCyc_out v s a b).1
@[simp] theorem busWrite_setCyc_ram (v : Nat) (s : State) (a : Addr) (b : Byte) :
    (busWrite (s.setCyc v) a b).ram = (busWrite s a b).ram := (busWrite_setCyc_out v s a b).2.1
@[simp] theorem busWrite_setCyc_vram (v : Nat) (s : State) (a : Addr) (b : Byte) :
    (busWrite (s.setCyc v) a b).vram = (busWrite s a b).vram := (busWrite_setCyc_out v s a b).2.2.1
@[simp] theorem busWrite_setCyc_cart (v : Nat) (s : State) (a : Addr) (b : Byte) :
    (busWrite (s.setCyc v) a b).cart = (busWrite s a b).cart := (busWrite_setCyc_out v s a b).2.2.2.1
@[simp] theorem busWrite_setCyc_mapper (v : Nat) (s : State) (a : Addr) (b : Byte) :
    (busWrite (s.setCyc v) a b).mapper = (busWrite s a b).mapper := (busWrite_setCyc_out v s a b).2.2.2.2.1
@[simp] theorem busWrite_setCyc_pad1 (v : Nat) (s : State) (a : Addr) (b : Byte) :
    (busWrite (s.setCyc v) a b).pad1 = (busWrite s a b).pad1 := (busWrite_setCyc_out v s a b).2.2.2.2.2.1
@[simp] theorem busWrite_setCyc_pad2 (v : Nat) (s : State) (a : Addr) (b : Byte) :
    (busWrite (s.setCyc v) a b).pad2 = (busWrite s a b).pad2 := (busWrite_setCyc_out v s a b).2.2.2.2.2.2.1
@[simp] theorem stallPulses_setCyc (v : Nat) (s : State) (a : Addr) : stallPulses (s.setCyc v) a = stallPulses s a := rfl
@[simp] theorem stallPulses_busTouch (s : State) (a b : Addr) : stallPulses (busTouch s a) b = stallPulses s b := by
  simp [stallPulses]

/-- The stack is RAM. -/
theorem busRegion_stack (b : Byte) : busRegion (stackAddr b) = .ram := by
  have h : (stackAddr b).toNat < 0x2000 := by
    simp only [stackAddr, word16, BitVec.toNat_append]
    have := b.isLt
    rw [Nat.shiftLeft_eq, Nat.or_comm, ← Nat.mul_comm]
    have hor := Nat.two_pow_add_eq_or_of_lt (i := 8) this 1
    simp only [show (0x01#8 : Byte).toNat = 1 from rfl] at *
    rw [Nat.or_comm, ← Nat.two_pow_add_eq_or_of_lt this]
    omega
  simp [busRegion, h]

theorem ramIndex_stack (b : Byte) : ramIndex (stackAddr b) = 256 + b.toNat := by
  have := b.isLt
  simp only [ramIndex, stackAddr, word16, BitVec.toNat_append, show (0x01#8 : Byte).toNat = 1 from rfl]
  rw [Nat.shiftLeft_eq, Nat.mul_comm, ← Nat.two_pow_add_eq_or_of_lt this]
  omega

/-- A push is a write of RAM and a step of `S`. -/
theorem push_eq (v : Byte) (s : State) :
    push v s = (ramWrite s (256 + s.cpu.s.toNat) v).setS (s.cpu.s - 1#8) := by
  unfold push busWrite
  rw [busRegion_stack, ramIndex_stack]

/-- A pull is a read of RAM and a step of `S`. -/
theorem pull_eq (s : State) :
    pull s = (ramRead s (256 + (s.cpu.s + 1#8).toNat), s.setS (s.cpu.s + 1#8)) := by
  unfold pull busPeek busTouch
  simp only [State.setS_cpu_s]
  rw [busRegion_stack, ramIndex_stack]
  rfl

/-- The zero page is RAM. -/
theorem busRegion_zp (b : Byte) : busRegion (zext16 b) = .ram := by
  have := b.isLt
  have h : (zext16 b).toNat < 0x2000 := by
    simp only [zext16, BitVec.toNat_setWidth]
    omega
  simp [busRegion, h]

@[simp] theorem busTouch_zp (s : State) (b : Byte) : busTouch s (zext16 b) = s := by
  unfold busTouch
  rw [busRegion_zp]

theorem busPeek_zp (s : State) (b : Byte) : busPeek s (zext16 b) = ramRead s b.toNat := by
  have := b.isLt
  unfold busPeek
  rw [busRegion_zp]
  simp only [ramIndex, zext16, BitVec.toNat_setWidth]
  congr 1
  omega

theorem zeroPageWord_busTouch (s : State) (a : Addr) (z : Byte) :
    zeroPageWord (busTouch s a) z = zeroPageWord s z := by
  simp [zeroPageWord, busPeek_zp, ramRead]

end Sys2Proof.Machine
end

