-- ==== Sys2Proof/Laws/Flags.lean ====
section
/-! SUPPORT. Every flag after every flag write, and the status words that are pushed and pulled. -/

namespace Sys2Proof.Machine

@[simp] theorem flagC_putC (b : Bool) (p : Byte) : flagC (putC b p) = b := by
  cases b <;> simp [flagC, putC, putBit]
@[simp] theorem flagZ_putC (b : Bool) (p : Byte) : flagZ (putC b p) = flagZ p := by
  cases b <;> simp [flagZ, putC, putBit]
@[simp] theorem flagI_putC (b : Bool) (p : Byte) : flagI (putC b p) = flagI p := by
  cases b <;> simp [flagI, putC, putBit]
@[simp] theorem flagD_putC (b : Bool) (p : Byte) : flagD (putC b p) = flagD p := by
  cases b <;> simp [flagD, putC, putBit]
@[simp] theorem flagB_putC (b : Bool) (p : Byte) : flagB (putC b p) = flagB p := by
  cases b <;> simp [flagB, putC, putBit]
@[simp] theorem flagU_putC (b : Bool) (p : Byte) : flagU (putC b p) = flagU p := by
  cases b <;> simp [flagU, putC, putBit]
@[simp] theorem flagV_putC (b : Bool) (p : Byte) : flagV (putC b p) = flagV p := by
  cases b <;> simp [flagV, putC, putBit]
@[simp] theorem flagN_putC (b : Bool) (p : Byte) : flagN (putC b p) = flagN p := by
  cases b <;> simp [flagN, putC, putBit]
@[simp] theorem flagC_putZ (b : Bool) (p : Byte) : flagC (putZ b p) = flagC p := by
  cases b <;> simp [flagC, putZ, putBit]
@[simp] theorem flagZ_putZ (b : Bool) (p : Byte) : flagZ (putZ b p) = b := by
  cases b <;> simp [flagZ, putZ, putBit]
@[simp] theorem flagI_putZ (b : Bool) (p : Byte) : flagI (putZ b p) = flagI p := by
  cases b <;> simp [flagI, putZ, putBit]
@[simp] theorem flagD_putZ (b : Bool) (p : Byte) : flagD (putZ b p) = flagD p := by
  cases b <;> simp [flagD, putZ, putBit]
@[simp] theorem flagB_putZ (b : Bool) (p : Byte) : flagB (putZ b p) = flagB p := by
  cases b <;> simp [flagB, putZ, putBit]
@[simp] theorem flagU_putZ (b : Bool) (p : Byte) : flagU (putZ b p) = flagU p := by
  cases b <;> simp [flagU, putZ, putBit]
@[simp] theorem flagV_putZ (b : Bool) (p : Byte) : flagV (putZ b p) = flagV p := by
  cases b <;> simp [flagV, putZ, putBit]
@[simp] theorem flagN_putZ (b : Bool) (p : Byte) : flagN (putZ b p) = flagN p := by
  cases b <;> simp [flagN, putZ, putBit]
@[simp] theorem flagC_putI (b : Bool) (p : Byte) : flagC (putI b p) = flagC p := by
  cases b <;> simp [flagC, putI, putBit]
@[simp] theorem flagZ_putI (b : Bool) (p : Byte) : flagZ (putI b p) = flagZ p := by
  cases b <;> simp [flagZ, putI, putBit]
@[simp] theorem flagI_putI (b : Bool) (p : Byte) : flagI (putI b p) = b := by
  cases b <;> simp [flagI, putI, putBit]
@[simp] theorem flagD_putI (b : Bool) (p : Byte) : flagD (putI b p) = flagD p := by
  cases b <;> simp [flagD, putI, putBit]
@[simp] theorem flagB_putI (b : Bool) (p : Byte) : flagB (putI b p) = flagB p := by
  cases b <;> simp [flagB, putI, putBit]
@[simp] theorem flagU_putI (b : Bool) (p : Byte) : flagU (putI b p) = flagU p := by
  cases b <;> simp [flagU, putI, putBit]
@[simp] theorem flagV_putI (b : Bool) (p : Byte) : flagV (putI b p) = flagV p := by
  cases b <;> simp [flagV, putI, putBit]
@[simp] theorem flagN_putI (b : Bool) (p : Byte) : flagN (putI b p) = flagN p := by
  cases b <;> simp [flagN, putI, putBit]
@[simp] theorem flagC_putD (b : Bool) (p : Byte) : flagC (putD b p) = flagC p := by
  cases b <;> simp [flagC, putD, putBit]
@[simp] theorem flagZ_putD (b : Bool) (p : Byte) : flagZ (putD b p) = flagZ p := by
  cases b <;> simp [flagZ, putD, putBit]
@[simp] theorem flagI_putD (b : Bool) (p : Byte) : flagI (putD b p) = flagI p := by
  cases b <;> simp [flagI, putD, putBit]
@[simp] theorem flagD_putD (b : Bool) (p : Byte) : flagD (putD b p) = b := by
  cases b <;> simp [flagD, putD, putBit]
@[simp] theorem flagB_putD (b : Bool) (p : Byte) : flagB (putD b p) = flagB p := by
  cases b <;> simp [flagB, putD, putBit]
@[simp] theorem flagU_putD (b : Bool) (p : Byte) : flagU (putD b p) = flagU p := by
  cases b <;> simp [flagU, putD, putBit]
@[simp] theorem flagV_putD (b : Bool) (p : Byte) : flagV (putD b p) = flagV p := by
  cases b <;> simp [flagV, putD, putBit]
@[simp] theorem flagN_putD (b : Bool) (p : Byte) : flagN (putD b p) = flagN p := by
  cases b <;> simp [flagN, putD, putBit]
@[simp] theorem flagC_putV (b : Bool) (p : Byte) : flagC (putV b p) = flagC p := by
  cases b <;> simp [flagC, putV, putBit]
@[simp] theorem flagZ_putV (b : Bool) (p : Byte) : flagZ (putV b p) = flagZ p := by
  cases b <;> simp [flagZ, putV, putBit]
@[simp] theorem flagI_putV (b : Bool) (p : Byte) : flagI (putV b p) = flagI p := by
  cases b <;> simp [flagI, putV, putBit]
@[simp] theorem flagD_putV (b : Bool) (p : Byte) : flagD (putV b p) = flagD p := by
  cases b <;> simp [flagD, putV, putBit]
@[simp] theorem flagB_putV (b : Bool) (p : Byte) : flagB (putV b p) = flagB p := by
  cases b <;> simp [flagB, putV, putBit]
@[simp] theorem flagU_putV (b : Bool) (p : Byte) : flagU (putV b p) = flagU p := by
  cases b <;> simp [flagU, putV, putBit]
@[simp] theorem flagV_putV (b : Bool) (p : Byte) : flagV (putV b p) = b := by
  cases b <;> simp [flagV, putV, putBit]
@[simp] theorem flagN_putV (b : Bool) (p : Byte) : flagN (putV b p) = flagN p := by
  cases b <;> simp [flagN, putV, putBit]
@[simp] theorem flagC_putN (b : Bool) (p : Byte) : flagC (putN b p) = flagC p := by
  cases b <;> simp [flagC, putN, putBit]
@[simp] theorem flagZ_putN (b : Bool) (p : Byte) : flagZ (putN b p) = flagZ p := by
  cases b <;> simp [flagZ, putN, putBit]
@[simp] theorem flagI_putN (b : Bool) (p : Byte) : flagI (putN b p) = flagI p := by
  cases b <;> simp [flagI, putN, putBit]
@[simp] theorem flagD_putN (b : Bool) (p : Byte) : flagD (putN b p) = flagD p := by
  cases b <;> simp [flagD, putN, putBit]
@[simp] theorem flagB_putN (b : Bool) (p : Byte) : flagB (putN b p) = flagB p := by
  cases b <;> simp [flagB, putN, putBit]
@[simp] theorem flagU_putN (b : Bool) (p : Byte) : flagU (putN b p) = flagU p := by
  cases b <;> simp [flagU, putN, putBit]
@[simp] theorem flagV_putN (b : Bool) (p : Byte) : flagV (putN b p) = flagV p := by
  cases b <;> simp [flagV, putN, putBit]
@[simp] theorem flagN_putN (b : Bool) (p : Byte) : flagN (putN b p) = b := by
  cases b <;> simp [flagN, putN, putBit]

@[simp] theorem flagZ_putZN (v p : Byte) : flagZ (putZN v p) = decide (v = 0#8) := by simp [putZN]
@[simp] theorem flagN_putZN (v p : Byte) : flagN (putZN v p) = v.getLsbD 7 := by simp [putZN]
@[simp] theorem flagC_putZN (v p : Byte) : flagC (putZN v p) = flagC p := by simp [putZN]
@[simp] theorem flagI_putZN (v p : Byte) : flagI (putZN v p) = flagI p := by simp [putZN]
@[simp] theorem flagD_putZN (v p : Byte) : flagD (putZN v p) = flagD p := by simp [putZN]
@[simp] theorem flagB_putZN (v p : Byte) : flagB (putZN v p) = flagB p := by simp [putZN]
@[simp] theorem flagU_putZN (v p : Byte) : flagU (putZN v p) = flagU p := by simp [putZN]
@[simp] theorem flagV_putZN (v p : Byte) : flagV (putZN v p) = flagV p := by simp [putZN]
@[simp] theorem flagC_pulledStatus (b : Byte) : flagC (pulledStatus b) = flagC b := by
  simp [flagC, pulledStatus]
@[simp] theorem flagZ_pulledStatus (b : Byte) : flagZ (pulledStatus b) = flagZ b := by
  simp [flagZ, pulledStatus]
@[simp] theorem flagI_pulledStatus (b : Byte) : flagI (pulledStatus b) = flagI b := by
  simp [flagI, pulledStatus]
@[simp] theorem flagD_pulledStatus (b : Byte) : flagD (pulledStatus b) = flagD b := by
  simp [flagD, pulledStatus]
@[simp] theorem flagB_pulledStatus (b : Byte) : flagB (pulledStatus b) = false := by
  simp [flagB, pulledStatus]
@[simp] theorem flagU_pulledStatus (b : Byte) : flagU (pulledStatus b) = true := by
  simp [flagU, pulledStatus]
@[simp] theorem flagV_pulledStatus (b : Byte) : flagV (pulledStatus b) = flagV b := by
  simp [flagV, pulledStatus]
@[simp] theorem flagN_pulledStatus (b : Byte) : flagN (pulledStatus b) = flagN b := by
  simp [flagN, pulledStatus]

theorem byte_ext_flags {p q : Byte} (h : ∀ f : Flag, f.value p = f.value q) : p = q := by
  apply BitVec.eq_of_getLsbD_eq
  intro i hi
  match i, hi with
  | 0, _ => exact h .c
  | 1, _ => exact h .z
  | 2, _ => exact h .i
  | 3, _ => exact h .d
  | 4, _ => exact h .b
  | 5, _ => exact h .u
  | 6, _ => exact h .v
  | 7, _ => exact h .n

/-- `Z` and `N` of a byte, as bit tests and as comparisons. -/
theorem byte_zero_iff (v : Byte) : decide (v = 0#8) = decide (v.toNat = 0) := by
  congr 1
  exact propext ⟨fun h => by rw [h]; rfl, fun h => BitVec.eq_of_toNat_eq h⟩

theorem byte_msb_iff (v : Byte) : v.getLsbD 7 = decide (128 ≤ v.toNat) := by
  rw [show v.getLsbD 7 = v.msb from rfl, BitVec.msb_eq_decide]

/-- A status with `U` set and `B` clear comes back from a push by an entry or by the program. -/
theorem pulledStatus_pushedByEntry (bflag : Bool) {p : Byte} (hu : flagU p = true) (hb : flagB p = false) :
    pulledStatus (pushedByEntry bflag p) = p := by
  apply byte_ext_flags
  intro f
  cases f <;> simp only [Flag.value, flagC_pulledStatus, flagZ_pulledStatus, flagI_pulledStatus, flagD_pulledStatus,
    flagB_pulledStatus, flagU_pulledStatus, flagV_pulledStatus, flagN_pulledStatus, hu, hb] <;>
    cases bflag <;> simp [pushedByEntry, flagC, flagZ, flagI, flagD, flagV, flagN]

theorem cpuInv_iff (c : Cpu) : c.inv = true ↔ flagU c.p = true ∧ flagB c.p = false := by
  simp [Cpu.inv]

end Sys2Proof.Machine
end

