-- ==== Sys2Proof/Laws/Exec.lean ====
section
/-! SUPPORT. Small lemmas for claims about the meanings: how a frame is shown register by register and flag by flag,
and what the shared operations leave of the CPU and of the rest. -/

namespace Sys2Proof.Machine

/-- A frame from one fact for each register and each flag. -/
theorem onlyChanges_of {regs : List Reg} {flags : List Flag} {s t : State}
    (ha : .a ∈ regs ∨ t.cpu.a = s.cpu.a) (hx : .x ∈ regs ∨ t.cpu.x = s.cpu.x) (hy : .y ∈ regs ∨ t.cpu.y = s.cpu.y)
    (hs : .s ∈ regs ∨ t.cpu.s = s.cpu.s) (hc : .c ∈ flags ∨ flagC t.cpu.p = flagC s.cpu.p)
    (hz : .z ∈ flags ∨ flagZ t.cpu.p = flagZ s.cpu.p) (hi : .i ∈ flags ∨ flagI t.cpu.p = flagI s.cpu.p)
    (hd : .d ∈ flags ∨ flagD t.cpu.p = flagD s.cpu.p) (hb : .b ∈ flags ∨ flagB t.cpu.p = flagB s.cpu.p)
    (hu : .u ∈ flags ∨ flagU t.cpu.p = flagU s.cpu.p) (hv : .v ∈ flags ∨ flagV t.cpu.p = flagV s.cpu.p)
    (hn : .n ∈ flags ∨ flagN t.cpu.p = flagN s.cpu.p) : OnlyChanges regs flags s t := by
  constructor
  · intro r hr
    cases r <;> simp_all [Reg.value]
  · intro f hf
    cases f <;> simp_all [Flag.value]

theorem znOf_iff (v : Byte) (t : State) :
    ZNOf v t ↔ flagZ t.cpu.p = decide (v = 0#8) ∧ flagN t.cpu.p = v.getLsbD 7 := by
  rw [ZNOf, byte_msb_iff, byte_zero_iff]

theorem addCyc_cross (base ea : Addr) (s : State) :
    s.addCyc (if (pageCrossed base ea && true) = true then 1 else 0) = s.addCyc (crossPulse base ea) := by
  unfold pageCrossed crossPulse
  by_cases h : hiByte ea = hiByte base <;> simp [h]

@[simp] theorem setZN_a (v : Byte) (s : State) : (s.setZN v).cpu.a = s.cpu.a := rfl
@[simp] theorem setZN_x (v : Byte) (s : State) : (s.setZN v).cpu.x = s.cpu.x := rfl
@[simp] theorem setZN_y (v : Byte) (s : State) : (s.setZN v).cpu.y = s.cpu.y := rfl
@[simp] theorem setZN_s (v : Byte) (s : State) : (s.setZN v).cpu.s = s.cpu.s := rfl
@[simp] theorem setZN_pc (v : Byte) (s : State) : (s.setZN v).cpu.pc = s.cpu.pc := rfl
@[simp] theorem setZN_p (v : Byte) (s : State) : (s.setZN v).cpu.p = putZN v s.cpu.p := rfl
@[simp] theorem setZN_cyc (v : Byte) (s : State) : (s.setZN v).cpu.cyc = s.cpu.cyc := rfl
@[simp] theorem setZN_total (v : Byte) (s : State) : (s.setZN v).cpu.total = s.cpu.total := rfl
@[simp] theorem mapP_p (f : Byte → Byte) (s : State) : (s.mapP f).cpu.p = f s.cpu.p := rfl
@[simp] theorem addCyc_cyc (n : Nat) (s : State) : (s.addCyc n).cpu.cyc = s.cpu.cyc + n := rfl

theorem outsideIs_setZN (v : Byte) (s : State) : OutsideIs s (s.setZN v) := OutsideIs.refl s
theorem outsideIs_mapP (f : Byte → Byte) (s : State) : OutsideIs s (s.mapP f) := OutsideIs.refl s
theorem outsideIs_addCyc (n : Nat) (s : State) : OutsideIs s (s.addCyc n) := OutsideIs.refl s

/-- What an operand fetch leaves: the operand, and the effects of one read. -/
theorem fetchOperand_spec (s : State) :
    (fetchOperand s).cpu = { s.cpu with fetched := busPeek s s.cpu.addr } ∧
      OutsideIs (busTouch s s.cpu.addr) (fetchOperand s) := by
  refine ⟨?_, OutsideIs.refl _⟩
  simp only [fetchOperand, State.setFetched, busTouch_cpu]

/-- A write followed by `SetZN` (42_arith_logic.md R230). -/
theorem storeZN_spec (v : Byte) (s : State) :
    (storeZN v s).cpu = { s.cpu with cyc := s.cpu.cyc + stallPulses s s.cpu.addr, p := putZN v s.cpu.p } ∧
      OutsideIs (busWrite s s.cpu.addr v) (storeZN v s) := by
  refine ⟨?_, OutsideIs.refl _⟩
  have h := busWrite_cpu s s.cpu.addr v
  rw [storeZN, State.setZN, State.mapP, State.setP, h]

/-- What a push leaves: one byte of page 1 and `S` one lower. -/
theorem push_spec (v : Byte) (s : State) :
    (push v s).cpu = { s.cpu with s := s.cpu.s - 1#8 } ∧
      OutsideIs (ramWrite s (256 + s.cpu.s.toNat) v) (push v s) := by
  rw [push_eq]
  exact ⟨rfl, OutsideIs.refl _⟩

/-- What the pushes of a word leave. -/
theorem pushWord_spec (v : Addr) (s : State) :
    (pushWord v s).cpu = { s.cpu with s := s.cpu.s - 2#8 } ∧
      OutsideIs (ramWrite (ramWrite s (256 + s.cpu.s.toNat) (hiByte v)) (256 + (s.cpu.s - 1#8).toNat) (loByte v))
        (pushWord v s) := by
  simp only [pushWord, push_eq]
  refine ⟨?_, OutsideIs.refl _⟩
  simp only [State.setS, ramWrite, State.setRam]
  rw [show s.cpu.s - 1#8 - 1#8 = s.cpu.s - 2#8 by rw [BitVec.sub_sub]; rfl]

/-- What the pulls of a word give and leave. -/
theorem pullWord_eq (s : State) :
    pullWord s = (word16 (ramRead s (256 + (s.cpu.s + 2#8).toNat)) (ramRead s (256 + (s.cpu.s + 1#8).toNat)),
      s.setS (s.cpu.s + 2#8)) := by
  have h2 : s.cpu.s + 1#8 + 1#8 = s.cpu.s + 2#8 := by rw [BitVec.add_assoc]; rfl
  simp only [pullWord, pull_eq, State.setS_cpu_s, h2]
  rfl

/-- Everything a return from an exception does (44_control_flow.md R264). -/
theorem returnFromException_eq (s : State) :
    returnFromException s =
      ((s.setS (s.cpu.s + 3#8)).setP (pulledStatus (ramRead s (256 + (s.cpu.s + 1#8).toNat)))).setPc
        (word16 (ramRead s (256 + (s.cpu.s + 3#8).toNat)) (ramRead s (256 + (s.cpu.s + 2#8).toNat))) := by
  have h2 : s.cpu.s + 1#8 + 1#8 = s.cpu.s + 2#8 := by rw [BitVec.add_assoc]; rfl
  have h3 : s.cpu.s + 1#8 + 2#8 = s.cpu.s + 3#8 := by rw [BitVec.add_assoc]; rfl
  simp only [returnFromException, pull_eq, pullWord_eq, State.setP_cpu_s, State.setS_cpu_s, h2, h3]
  rfl

/-- The vectors lie behind the mapper: reading one has no side effect. -/
theorem rd16_vector (s : State) (a : Addr) (h : 0xFFFA ≤ a.toNat) (h' : a.toNat < 0xFFFF) :
    rd16 s a = (word16 (busPeek s (a + 1#16)) (busPeek s a), s) := by
  have hr : ∀ b : Addr, 0x6000 ≤ b.toNat → busTouch s b = s := by
    intro b hb
    have : busRegion b = .mapper := by
      unfold busRegion
      repeat' split
      all_goals first | rfl | omega
    unfold busTouch
    rw [this]
  have h1 : (a + 1#16).toNat = a.toNat + 1 := by
    rw [BitVec.toNat_add]
    simp only [show (1#16 : Addr).toNat = 1 from rfl]
    omega
  simp only [rd16, hr a (by omega), hr (a + 1#16) (by omega)]

/-- A byte behind the mapper does not depend on work RAM. -/
theorem busPeek_ramWrite (s : State) (a : Addr) (k : Nat) (v : Byte) (h : 0x6000 ≤ a.toNat) :
    busPeek (ramWrite s k v) a = busPeek s a := by
  have : busRegion a = .mapper := by
    unfold busRegion
    repeat' split
    all_goals first | rfl | omega
  unfold busPeek
  rw [this]
  rfl

/-- Everything the taking of an exception does: three pushes, the mask, the vector (60_exceptions.md R445). -/
theorem takeException_spec (vector : Addr) (bflag : Bool) (s : State) (h : 0xFFFA ≤ vector.toNat)
    (h' : vector.toNat < 0xFFFF) :
    (takeException vector bflag s).cpu =
        { s.cpu with
          s := s.cpu.s - 3#8, p := putI true s.cpu.p
          pc := word16 (busPeek s (vector + 1#16)) (busPeek s vector) } ∧
      OutsideIs (ramWrite (ramWrite (ramWrite s (256 + s.cpu.s.toNat) (hiByte s.cpu.pc))
        (256 + (s.cpu.s - 1#8).toNat) (loByte s.cpu.pc))
        (256 + (s.cpu.s - 2#8).toNat) (pushedByEntry bflag s.cpu.p)) (takeException vector bflag s) := by
  have h1 : (vector + 1#16).toNat = vector.toNat + 1 := by
    rw [BitVec.toNat_add]
    simp only [show (1#16 : Addr).toNat = 1 from rfl]
    omega
  have hp : pushWord s.cpu.pc s = (ramWrite (ramWrite s (256 + s.cpu.s.toNat) (hiByte s.cpu.pc))
      (256 + (s.cpu.s - 1#8).toNat) (loByte s.cpu.pc)).setS (s.cpu.s - 2#8) := by
    obtain ⟨hc, ho⟩ := pushWord_spec s.cpu.pc s
    rw [State.eq_withCpu ho, hc]
    rfl
  have h3 : s.cpu.s - 2#8 - 1#8 = s.cpu.s - 3#8 := by rw [BitVec.sub_sub]; rfl
  simp only [takeException, hp, push_eq, State.setS_cpu_s, h3, rd16_vector _ vector h h']
  refine ⟨?_, OutsideIs.refl _⟩
  simp only [State.mapP, busPeek_setP, busPeek_setS, busPeek_ramWrite _ _ _ _ (show 0x6000 ≤ vector.toNat by omega),
    busPeek_ramWrite _ _ _ _ (show 0x6000 ≤ (vector + 1#16).toNat by omega)]
  rfl

end Sys2Proof.Machine
end

