-- ==== Sys2Proof/Laws/Memory.lean ====
section
/-! SUPPORT. The laws of a byte memory: reading after writing, and the canonical form, which every write keeps
and which makes memories with equal reads equal data. -/

namespace Sys2Proof.Machine

@[simp] theorem Memory.read_nil (d : Byte) (a : Nat) : Memory.read d [] a = d := rfl

theorem Memory.read_cons (d : Byte) (c : Host.Cell) (m : Memory) (a : Nat) :
    Memory.read d (c :: m) a = if a = c.1 then c.2 else if a < c.1 then d else Memory.read d m a := rfl

theorem Memory.wfFrom_cons (d : Byte) (size lo : Nat) (c : Host.Cell) (m : Memory) :
    Memory.wfFrom d size lo (c :: m) = true ↔
      lo ≤ c.1 ∧ c.1 < size ∧ c.2 ≠ d ∧ Memory.wfFrom d size (c.1 + 1) m = true := by
  simp [Memory.wfFrom, and_assoc]

@[simp] theorem Memory.wf_nil (d : Byte) (size : Nat) : Memory.wf d size [] = true := rfl

theorem Memory.wfFrom_mono {d : Byte} {size lo lo' : Nat} {m : Memory} (h : Memory.wfFrom d size lo m = true)
    (hl : lo' ≤ lo) : Memory.wfFrom d size lo' m = true := by
  cases m with
  | nil => rfl
  | cons c m =>
    rw [Memory.wfFrom_cons] at h ⊢
    exact ⟨by omega, h.2⟩

/-- Below the first address of a canonical memory every byte is the unlisted one. -/
theorem Memory.read_below {d : Byte} {size lo a : Nat} {m : Memory} (h : Memory.wfFrom d size lo m = true)
    (ha : a < lo) : Memory.read d m a = d := by
  cases m with
  | nil => rfl
  | cons c m =>
    rw [Memory.wfFrom_cons] at h
    rw [Memory.read_cons, if_neg (by omega), if_pos (by omega)]

/-- A write keeps the canonical form of the cells from `lo` on. -/
theorem Memory.wfFrom_write {d : Byte} {size lo a : Nat} {v : Byte} {m : Memory}
    (h : Memory.wfFrom d size lo m = true) (hl : lo ≤ a) (ha : a < size) :
    Memory.wfFrom d size lo (Memory.write d m a v) = true := by
  induction m generalizing lo with
  | nil =>
    simp only [Memory.write]
    split
    · rfl
    · exact (Memory.wfFrom_cons ..).2 ⟨hl, ha, by assumption, rfl⟩
  | cons c m ih =>
    obtain ⟨h1, h2, h3, h4⟩ := (Memory.wfFrom_cons ..).1 h
    simp only [Memory.write]
    split
    · split
      · exact Memory.wfFrom_mono h4 (by omega)
      · exact (Memory.wfFrom_cons ..).2 ⟨h1, h2, by assumption, h4⟩
    · split
      · split
        · exact h
        · exact (Memory.wfFrom_cons ..).2
            ⟨hl, ha, by assumption, (Memory.wfFrom_cons ..).2 ⟨by simp only; omega, h2, h3, h4⟩⟩
      · exact (Memory.wfFrom_cons ..).2 ⟨h1, h2, h3, ih h4 (by omega)⟩

/-- A write inside the memory keeps its canonical form. -/
theorem Memory.wf_write {d : Byte} {size a : Nat} {v : Byte} {m : Memory} (h : Memory.wf d size m = true)
    (ha : a < size) : Memory.wf d size (Memory.write d m a v) = true :=
  Memory.wfFrom_write h (Nat.zero_le _) ha

theorem Memory.read_write_from {d : Byte} {size lo : Nat} {m : Memory} (h : Memory.wfFrom d size lo m = true)
    (a b : Nat) (v : Byte) :
    Memory.read d (Memory.write d m a v) b = if b = a then v else Memory.read d m b := by
  induction m generalizing lo with
  | nil =>
    simp only [Memory.write]
    split
    · next hv => simp [hv]
    · by_cases hb : b = a <;> simp [Memory.read_cons, hb]
  | cons c m ih =>
    obtain ⟨h1, h2, h3, h4⟩ := (Memory.wfFrom_cons ..).1 h
    simp only [Memory.write]
    split
    · next hac =>
      subst hac
      split
      · next hv =>
        subst hv
        by_cases hb : b = c.1
        · subst hb
          simp [Memory.read_below h4 (Nat.lt_succ_self _)]
        · rw [if_neg hb, Memory.read_cons, if_neg hb]
          split
          · next hlt => exact Memory.read_below h4 (by omega)
          · rfl
      · by_cases hb : b = c.1 <;> simp [Memory.read_cons, hb]
    · next hac =>
      split
      · next hlt =>
        split
        · next hv =>
          by_cases hb : b = a
          · subst hb
            rw [if_pos rfl, Memory.read_cons, if_neg hac, if_pos hlt, hv]
          · rw [if_neg hb]
        · by_cases hb : b = a
          · subst hb
            simp [Memory.read_cons]
          · rw [if_neg hb, Memory.read_cons, if_neg hb]
            simp only
            split
            · next hba => rw [Memory.read_cons, if_neg (by omega), if_pos (by omega)]
            · rfl
      · next hlt =>
        by_cases hb : b = c.1
        · subst hb
          rw [if_neg (by omega), Memory.read_cons, Memory.read_cons]
          simp
        · rw [Memory.read_cons, if_neg hb, Memory.read_cons, if_neg hb]
          by_cases hbc : b < c.1
          · rw [if_pos hbc, if_pos hbc, if_neg (by omega)]
          · rw [if_neg hbc, if_neg hbc, ih h4]

/-- Reading after a write: the written byte at its address, the old byte elsewhere. -/
theorem Memory.read_write {d : Byte} {size : Nat} {m : Memory} (h : Memory.wf d size m = true) (a b : Nat)
    (v : Byte) : Memory.read d (Memory.write d m a v) b = if b = a then v else Memory.read d m b :=
  Memory.read_write_from h a b v

theorem Memory.ext_from {d : Byte} {size lo : Nat} {m n : Memory} (hm : Memory.wfFrom d size lo m = true)
    (hn : Memory.wfFrom d size lo n = true) (h : ∀ a, Memory.read d m a = Memory.read d n a) : m = n := by
  induction m generalizing lo n with
  | nil =>
    cases n with
    | nil => rfl
    | cons c n =>
      obtain ⟨_, _, h3, _⟩ := (Memory.wfFrom_cons ..).1 hn
      have := h c.1
      simp only [Memory.read_nil, Memory.read_cons, if_true] at this
      exact absurd this.symm h3
  | cons c m ih =>
    obtain ⟨h1, h2, h3, h4⟩ := (Memory.wfFrom_cons ..).1 hm
    cases n with
    | nil =>
      have := h c.1
      simp only [Memory.read_nil, Memory.read_cons, if_true] at this
      exact absurd this h3
    | cons e n =>
      obtain ⟨k1, k2, k3, k4⟩ := (Memory.wfFrom_cons ..).1 hn
      have hc := h c.1
      have he := h e.1
      simp only [Memory.read_cons, if_true] at hc he
      rcases Nat.lt_trichotomy c.1 e.1 with hlt | heq | hgt
      · rw [if_neg (by omega), if_pos hlt] at hc
        exact absurd hc h3
      · rw [if_pos heq] at hc
        have hce : c = e := Prod.ext heq hc
        subst hce
        refine congrArg _ (ih h4 k4 fun a => ?_)
        have ha := h a
        simp only [Memory.read_cons] at ha
        by_cases h5 : a < c.1 + 1
        · rw [Memory.read_below h4 h5, Memory.read_below k4 h5]
        · rwa [if_neg (by omega), if_neg (by omega), if_neg (by omega), if_neg (by omega)] at ha
      · rw [if_neg (by omega), if_pos hgt] at he
        exact absurd he.symm k3

/-- Canonical memories that read the same everywhere are the same data. -/
theorem Memory.ext {d : Byte} {size : Nat} {m n : Memory} (hm : Memory.wf d size m = true)
    (hn : Memory.wf d size n = true) (h : ∀ a, Memory.read d m a = Memory.read d n a) : m = n :=
  Memory.ext_from hm hn h

theorem Memory.wfFrom_ofBytes {d : Byte} {size : Nat} (bs : List Byte) (a : Nat) (h : a + bs.length ≤ size) :
    Memory.wfFrom d size a (Memory.ofBytes d a bs) = true := by
  induction bs generalizing a with
  | nil => rfl
  | cons b bs ih =>
    simp only [List.length_cons] at h
    simp only [Memory.ofBytes]
    split
    · exact Memory.wfFrom_mono (ih (a + 1) (by omega)) (by omega)
    · exact (Memory.wfFrom_cons ..).2 ⟨Nat.le_refl _, by simp only; omega, by assumption, ih (a + 1) (by omega)⟩

/-- A memory built from bytes reads them back from its first address on. -/
theorem Memory.read_ofBytes {d : Byte} (bs : List Byte) (a k : Nat) :
    Memory.read d (Memory.ofBytes d a bs) (a + k) = bs.getD k d := by
  induction bs generalizing a k with
  | nil => simp [Memory.ofBytes]
  | cons b bs ih =>
    have hwf := Memory.wfFrom_ofBytes (d := d) (size := a + 1 + bs.length) bs (a + 1) (Nat.le_refl _)
    cases k with
    | zero =>
      simp only [Memory.ofBytes]
      split
      · next hb => simp [hb, Memory.read_below hwf]
      · simp [Memory.read_cons]
    | succ k =>
      have := ih (a + 1) k
      rw [show a + 1 + k = a + (k + 1) by omega] at this
      simp only [Memory.ofBytes]
      split
      · simpa using this
      · simp only [Memory.read_cons]
        rw [if_neg (by omega), if_neg (by omega)]
        simpa using this

end Sys2Proof.Machine
end

