-- ==== Sys2Proof/Laws/Ppu.lean ====
section
/-! SUPPORT. What each part of a PPU pulse can change: the background step, the sprite step, the pixel, the counters;
each as an equation that names every field it may write, and the fields of the whole pulse. -/

namespace Sys2Proof.Machine

@[simp] theorem setPpu_setPpu (p q : Ppu) (s : State) : (s.setPpu p).setPpu q = s.setPpu q := rfl
@[simp] theorem setPpu_self (s : State) : s.setPpu s.ppu = s := rfl
@[simp] theorem ppuRd_setPpu (p : Ppu) (s : State) (a : BitVec 14) : ppuRd (s.setPpu p) a = ppuRd s a := rfl

/-- A state with only its PPU replaced. -/
theorem eq_setPpu_of {s t : State} (p : Ppu) (h : t = s.setPpu p) : t = s.setPpu t.ppu := by rw [h]; rfl

/-- The fetch or reload of one cycle of a fetch window. -/
theorem fetchPhase_eq (c : Nat) (s : State) :
    fetchPhase c s = s.setPpu { s.ppu with
      ntByte := if c % 8 = 1 then ppuRd s (ntFetchAddr s.ppu.v) else s.ppu.ntByte
      atBits := if c % 8 = 3 then (ppuRd s (atFetchAddr s.ppu.v) >>> atShift s.ppu.v).setWidth 2 else s.ppu.atBits
      patLo := if c % 8 = 5 then ppuRd s (patFetchAddr s.ppu) else s.ppu.patLo
      patHi := if c % 8 = 7 then ppuRd s (patFetchAddr s.ppu ||| 8#14) else s.ppu.patHi
      bgLo := if c % 8 = 0 then (s.ppu.bgLo &&& 0xFF00#16) ||| s.ppu.patLo.setWidth 16 else s.ppu.bgLo
      bgHi := if c % 8 = 0 then (s.ppu.bgHi &&& 0xFF00#16) ||| s.ppu.patHi.setWidth 16 else s.ppu.bgHi
      palLatch0 := if c % 8 = 0 then s.ppu.palLatch1 else s.ppu.palLatch0
      palLatch1 := if c % 8 = 0 then s.ppu.atBits else s.ppu.palLatch1
      v := if c % 8 = 0 then incCoarseX s.ppu.v else s.ppu.v } := by
  have h8 : c % 8 = 0 ∨ c % 8 = 1 ∨ c % 8 = 2 ∨ c % 8 = 3 ∨ c % 8 = 4 ∨ c % 8 = 5 ∨ c % 8 = 6 ∨ c % 8 = 7 := by omega
  unfold fetchPhase
  rcases h8 with h | h | h | h | h | h | h | h <;> rw [h] <;> rfl

/-- The value of `v` after a cycle of the background step. -/
def scrolledV (l c : Nat) (p : Ppu) : BitVec 15 :=
  let v1 := if inFetchWindow c = true ∧ c % 8 = 0 then incCoarseX p.v else p.v
  let v2 := if c = 256 then incFineY v1 else v1
  if c = 257 then copyHorizontal p.t v2 else if l = 261 ∧ 280 ≤ c ∧ c ≤ 304 then copyVertical p.t v2 else v2

theorem fineYStep_eq (c : Nat) (p : Ppu) :
    fineYStep c p = { p with v := if c = 256 then incFineY p.v else p.v } := by
  unfold fineYStep
  split <;> rfl

theorem scrollCopies_eq (l c : Nat) (p : Ppu) :
    scrollCopies l c p = { p with v := if c = 257 then copyHorizontal p.t p.v
      else if l = 261 ∧ 280 ≤ c ∧ c ≤ 304 then copyVertical p.t p.v else p.v } := by
  unfold scrollCopies
  split
  · rfl
  · split <;> rfl

/-- The background step writes its latches, its shift registers, its palette latches and `v`. -/
theorem backgroundStep_eq (l c : Nat) (s : State) :
    backgroundStep l c s = s.setPpu { s.ppu with
      ntByte := if inFetchWindow c = true ∧ c % 8 = 1 then ppuRd s (ntFetchAddr s.ppu.v) else s.ppu.ntByte
      atBits := if inFetchWindow c = true ∧ c % 8 = 3
        then (ppuRd s (atFetchAddr s.ppu.v) >>> atShift s.ppu.v).setWidth 2 else s.ppu.atBits
      patLo := if inFetchWindow c = true ∧ c % 8 = 5 then ppuRd s (patFetchAddr s.ppu) else s.ppu.patLo
      patHi := if inFetchWindow c = true ∧ c % 8 = 7 then ppuRd s (patFetchAddr s.ppu ||| 8#14) else s.ppu.patHi
      bgLo := if inFetchWindow c = true then
          (if c % 8 = 0 then ((s.ppu.bgLo <<< 1) &&& 0xFF00#16) ||| s.ppu.patLo.setWidth 16 else s.ppu.bgLo <<< 1)
        else s.ppu.bgLo
      bgHi := if inFetchWindow c = true then
          (if c % 8 = 0 then ((s.ppu.bgHi <<< 1) &&& 0xFF00#16) ||| s.ppu.patHi.setWidth 16 else s.ppu.bgHi <<< 1)
        else s.ppu.bgHi
      palLatch0 := if inFetchWindow c = true ∧ c % 8 = 0 then s.ppu.palLatch1 else s.ppu.palLatch0
      palLatch1 := if inFetchWindow c = true ∧ c % 8 = 0 then s.ppu.atBits else s.ppu.palLatch1
      v := scrolledV l c s.ppu } := by
  by_cases hin : inFetchWindow c = true
  · unfold backgroundStep fetchWindowStep
    rw [if_pos hin]
    simp only [fetchPhase_eq, fineYStep_eq, scrollCopies_eq, scrolledV, hin, true_and, if_true]
    rfl
  · have hw : c ≠ 256 := by
      rintro rfl
      exact hin (by decide)
    unfold backgroundStep fetchWindowStep
    rw [if_neg hin]
    simp only [scrollCopies_eq, scrolledV, hin, if_false, hw]
    rfl

/-- The pixel writes the back buffer and the sprite-0 flag. -/
theorem outputPixel_eq (clip : Bool) (l c : Nat) (p : Ppu) :
    outputPixel clip l c p =
      let m := writePixel (backBuffer p) l (c - 1) (colour p (pixelIndexAt clip p c))
      let on := p.showBg && p.showSp
      { p with
        sprite0 := if on = true then p.sprite0 || sprite0HitAt clip p c else p.sprite0
        fb0 := if on = true ∧ p.front = true then m else p.fb0
        fb1 := if on = true ∧ p.front = false then m else p.fb1 } := by
  unfold outputPixel setBackBuffer
  by_cases hon : (p.showBg && p.showSp) = true
  · by_cases hf : p.front = true
    · simp [hon, hf]
    · simp [hon, hf]
  · simp [hon]

theorem clearStep_eq (c : Nat) (p : Ppu) :
    clearStep c p = { p with
      secEval := if c % 2 = 0 then p.secEval.write unlistedSecondary (c / 2 - 1) 0xFF#8 else p.secEval
      secEvalCount := if c = 1 then 0 else p.secEvalCount
      secEvalHasZero := if c = 1 then false else p.secEvalHasZero } := by
  unfold clearStep secEvalWrite
  by_cases h1 : c = 1
  · subst h1
    rfl
  · by_cases h2 : c % 2 = 0 <;> simp [h1, h2]

/-- The bytes of a copied sprite in the evaluation side. -/
def copiedSprite (n : Nat) (p : Ppu) : Memory :=
  (((p.secEval.write unlistedSecondary (4 * p.secEvalCount) (oamRead p (4 * n))).write unlistedSecondary
    (4 * p.secEvalCount + 1) (oamRead p (4 * n + 1))).write unlistedSecondary
    (4 * p.secEvalCount + 2) (oamRead p (4 * n + 2))).write unlistedSecondary
    (4 * p.secEvalCount + 3) (oamRead p (4 * n + 3))

theorem copySprite_eq (n : Nat) (p : Ppu) :
    copySprite n p = { p with
      secEval := copiedSprite n p, secEvalHasZero := if n = 0 then true else p.secEvalHasZero
      secEvalCount := p.secEvalCount + 1 } := by
  simp only [copySprite, secEvalWrite, copiedSprite]

theorem examineSprite_eq (l n : Nat) (p : Ppu) :
    examineSprite l n p =
      let inside := inRange p l (oamRead p (4 * n))
      { p with
        secEval := if inside = true ∧ p.secEvalCount < 8 then copiedSprite n p else p.secEval
        secEvalCount := if inside = true ∧ p.secEvalCount < 8 then p.secEvalCount + 1 else p.secEvalCount
        secEvalHasZero := if inside = true ∧ p.secEvalCount < 8 then (if n = 0 then true else p.secEvalHasZero)
          else p.secEvalHasZero
        overflow := if inside = true ∧ ¬p.secEvalCount < 8 then true else p.overflow } := by
  unfold examineSprite
  by_cases hi : inRange p l (oamRead p (4 * n)) = true
  · by_cases hc : p.secEvalCount < 8
    · simp only [hi, hc, if_true, if_false, true_and, not_true_eq_false, copySprite_eq]
    · simp only [hi, hc, if_true, if_false, true_and, not_false_eq_true]
  · simp only [hi, if_false, false_and, Bool.false_eq_true]

/-- What a cycle of sprite work leaves, field by field. -/
theorem spriteStep_keeps (l c : Nat) (s : State) :
    spriteStep l c s = s.setPpu { s.ppu with
      oamAddr := (spriteStep l c s).ppu.oamAddr
      overflow := (spriteStep l c s).ppu.overflow
      secEval := (spriteStep l c s).ppu.secEval
      secEvalCount := (spriteStep l c s).ppu.secEvalCount
      secEvalHasZero := (spriteStep l c s).ppu.secEvalHasZero
      secRend := (spriteStep l c s).ppu.secRend
      secRendCount := (spriteStep l c s).ppu.secRendCount
      secRendHasZero := (spriteStep l c s).ppu.secRendHasZero
      sprLo := (spriteStep l c s).ppu.sprLo
      sprHi := (spriteStep l c s).ppu.sprHi } := by
  unfold spriteStep
  split
  · rw [clearStep_eq]
    rfl
  · split
    · split
      · unfold scanStep
        split
        · rw [examineSprite_eq]
          rfl
        · rfl
      · rfl
    · split
      · unfold spriteFetchStep latchSprites
        simp only
        split <;> split <;> rfl
      · rfl

theorem frameSwap_eq (l c : Nat) (p : Ppu) :
    frameSwap l c p = { p with front := if l = 239 ∧ c = 256 then !p.front else p.front } := by
  unfold frameSwap
  split <;> rfl

theorem advance_eq (p : Ppu) :
    advance p = { p with
      scanline := (advance p).scanline, cycle := (advance p).cycle, frameOdd := (advance p).frameOdd } := by
  unfold advance
  split
  · rfl
  · split
    · split <;> rfl
    · rfl

/-- Part 2 of the pulse writes the PPU and nothing else. -/
theorem renderWork_setPpu (l c : Nat) (s : State) :
    renderWork l c s = s.setPpu (renderWork l c s).ppu := by
  unfold renderWork
  split
  · simp only
    rw [spriteStep_keeps, backgroundStep_eq]
    split <;> rfl
  · rfl

/-- The events of part 1 outside (241, 1) write the PPU's flags and nothing else. -/
theorem flagEvents_eq (l c : Nat) (s : State) (h : ¬(l = 241 ∧ c = 1)) :
    flagEvents l c s = s.setPpu (if l = 261 ∧ c = 1 then preRenderClear s.ppu else s.ppu) := by
  unfold flagEvents
  rw [if_neg h]
  split <;> rfl

/-- An NMI entry leaves the PPU alone. -/
theorem nmi_spec (s : State) :
    (nmi s).cpu = { s.cpu with
        s := s.cpu.s - 3#8, p := putI true s.cpu.p
        pc := word16 (busPeek s 0xFFFB#16) (busPeek s 0xFFFA#16)
        cyc := match s.params.intCharge with | .assign => 7 | .add => s.cpu.cyc + 7 } ∧
      OutsideIs (ramWrite (ramWrite (ramWrite s (256 + s.cpu.s.toNat) (hiByte s.cpu.pc))
        (256 + (s.cpu.s - 1#8).toNat) (loByte s.cpu.pc))
        (256 + (s.cpu.s - 2#8).toNat) (pushedByEntry false s.cpu.p)) (nmi s) := by
  obtain ⟨h1, h2⟩ := takeException_spec Config.nmiVector false s (by decide) (by decide)
  have hp : (takeException Config.nmiVector false s).params = s.params := h2.2.2.2.2.2.2.2.1
  unfold nmi enterInterrupt charge7
  rw [hp]
  refine ⟨?_, ?_⟩
  · cases hc : s.params.intCharge <;> simp [State.addCyc, State.setCyc, h1] <;> rfl
  · cases hc : s.params.intCharge <;> exact h2

theorem nmi_ppu (s : State) : (nmi s).ppu = s.ppu := (nmi_spec s).2.1

/-- The vblank event: the flag, and with `nmiEnable` the entry, which reads nothing of the PPU. -/
theorem vblankStart_eq (s : State) :
    vblankStart s = (if s.ppu.nmiEnable then nmi s else s).setPpu { s.ppu with vblank := true } := by
  unfold vblankStart
  have hn : (s.setPpu { s.ppu with vblank := true }).ppu.nmiEnable = s.ppu.nmiEnable := rfl
  simp only [hn]
  split
  · obtain ⟨c1, o1⟩ := nmi_spec (s.setPpu { s.ppu with vblank := true })
    obtain ⟨c2, o2⟩ := nmi_spec s
    rw [State.eq_withCpu o1, State.eq_withCpu o2, c1, c2]
    rfl
  · rfl

end Sys2Proof.Machine
end

