-- ==== Sys2Proof/Laws/PpuFields.lean ====
section
/-! SUPPORT. One lemma per field for each part of a PPU pulse that leaves it alone. -/

namespace Sys2Proof.Machine

@[simp] theorem advance_ctrl (p : Ppu) : (advance p).ctrl = p.ctrl := by
  rw [advance_eq]
@[simp] theorem advance_mask (p : Ppu) : (advance p).mask = p.mask := by
  rw [advance_eq]
@[simp] theorem advance_vblank (p : Ppu) : (advance p).vblank = p.vblank := by
  rw [advance_eq]
@[simp] theorem advance_sprite0 (p : Ppu) : (advance p).sprite0 = p.sprite0 := by
  rw [advance_eq]
@[simp] theorem advance_overflow (p : Ppu) : (advance p).overflow = p.overflow := by
  rw [advance_eq]
@[simp] theorem advance_oamAddr (p : Ppu) : (advance p).oamAddr = p.oamAddr := by
  rw [advance_eq]
@[simp] theorem advance_readBuf (p : Ppu) : (advance p).readBuf = p.readBuf := by
  rw [advance_eq]
@[simp] theorem advance_oam (p : Ppu) : (advance p).oam = p.oam := by
  rw [advance_eq]
@[simp] theorem advance_pal (p : Ppu) : (advance p).pal = p.pal := by
  rw [advance_eq]
@[simp] theorem advance_v (p : Ppu) : (advance p).v = p.v := by
  rw [advance_eq]
@[simp] theorem advance_t (p : Ppu) : (advance p).t = p.t := by
  rw [advance_eq]
@[simp] theorem advance_x (p : Ppu) : (advance p).x = p.x := by
  rw [advance_eq]
@[simp] theorem advance_w (p : Ppu) : (advance p).w = p.w := by
  rw [advance_eq]
@[simp] theorem advance_bgLo (p : Ppu) : (advance p).bgLo = p.bgLo := by
  rw [advance_eq]
@[simp] theorem advance_bgHi (p : Ppu) : (advance p).bgHi = p.bgHi := by
  rw [advance_eq]
@[simp] theorem advance_palLatch0 (p : Ppu) : (advance p).palLatch0 = p.palLatch0 := by
  rw [advance_eq]
@[simp] theorem advance_palLatch1 (p : Ppu) : (advance p).palLatch1 = p.palLatch1 := by
  rw [advance_eq]
@[simp] theorem advance_ntByte (p : Ppu) : (advance p).ntByte = p.ntByte := by
  rw [advance_eq]
@[simp] theorem advance_atBits (p : Ppu) : (advance p).atBits = p.atBits := by
  rw [advance_eq]
@[simp] theorem advance_patLo (p : Ppu) : (advance p).patLo = p.patLo := by
  rw [advance_eq]
@[simp] theorem advance_patHi (p : Ppu) : (advance p).patHi = p.patHi := by
  rw [advance_eq]
@[simp] theorem advance_secEval (p : Ppu) : (advance p).secEval = p.secEval := by
  rw [advance_eq]
@[simp] theorem advance_secEvalCount (p : Ppu) : (advance p).secEvalCount = p.secEvalCount := by
  rw [advance_eq]
@[simp] theorem advance_secEvalHasZero (p : Ppu) : (advance p).secEvalHasZero = p.secEvalHasZero := by
  rw [advance_eq]
@[simp] theorem advance_secRend (p : Ppu) : (advance p).secRend = p.secRend := by
  rw [advance_eq]
@[simp] theorem advance_secRendCount (p : Ppu) : (advance p).secRendCount = p.secRendCount := by
  rw [advance_eq]
@[simp] theorem advance_secRendHasZero (p : Ppu) : (advance p).secRendHasZero = p.secRendHasZero := by
  rw [advance_eq]
@[simp] theorem advance_sprLo (p : Ppu) : (advance p).sprLo = p.sprLo := by
  rw [advance_eq]
@[simp] theorem advance_sprHi (p : Ppu) : (advance p).sprHi = p.sprHi := by
  rw [advance_eq]
@[simp] theorem advance_fb0 (p : Ppu) : (advance p).fb0 = p.fb0 := by
  rw [advance_eq]
@[simp] theorem advance_fb1 (p : Ppu) : (advance p).fb1 = p.fb1 := by
  rw [advance_eq]
@[simp] theorem advance_front (p : Ppu) : (advance p).front = p.front := by
  rw [advance_eq]
@[simp] theorem frameSwap_ctrl (l c : Nat) (p : Ppu) : (frameSwap l c p).ctrl = p.ctrl := by
  rw [frameSwap_eq]
@[simp] theorem frameSwap_mask (l c : Nat) (p : Ppu) : (frameSwap l c p).mask = p.mask := by
  rw [frameSwap_eq]
@[simp] theorem frameSwap_vblank (l c : Nat) (p : Ppu) : (frameSwap l c p).vblank = p.vblank := by
  rw [frameSwap_eq]
@[simp] theorem frameSwap_sprite0 (l c : Nat) (p : Ppu) : (frameSwap l c p).sprite0 = p.sprite0 := by
  rw [frameSwap_eq]
@[simp] theorem frameSwap_overflow (l c : Nat) (p : Ppu) : (frameSwap l c p).overflow = p.overflow := by
  rw [frameSwap_eq]
@[simp] theorem frameSwap_oamAddr (l c : Nat) (p : Ppu) : (frameSwap l c p).oamAddr = p.oamAddr := by
  rw [frameSwap_eq]
@[simp] theorem frameSwap_readBuf (l c : Nat) (p : Ppu) : (frameSwap l c p).readBuf = p.readBuf := by
  rw [frameSwap_eq]
@[simp] theorem frameSwap_scanline (l c : Nat) (p : Ppu) : (frameSwap l c p).scanline = p.scanline := by
  rw [frameSwap_eq]
@[simp] theorem frameSwap_cycle (l c : Nat) (p : Ppu) : (frameSwap l c p).cycle = p.cycle := by
  rw [frameSwap_eq]
@[simp] theorem frameSwap_frameOdd (l c : Nat) (p : Ppu) : (frameSwap l c p).frameOdd = p.frameOdd := by
  rw [frameSwap_eq]
@[simp] theorem frameSwap_oam (l c : Nat) (p : Ppu) : (frameSwap l c p).oam = p.oam := by
  rw [frameSwap_eq]
@[simp] theorem frameSwap_pal (l c : Nat) (p : Ppu) : (frameSwap l c p).pal = p.pal := by
  rw [frameSwap_eq]
@[simp] theorem frameSwap_v (l c : Nat) (p : Ppu) : (frameSwap l c p).v = p.v := by
  rw [frameSwap_eq]
@[simp] theorem frameSwap_t (l c : Nat) (p : Ppu) : (frameSwap l c p).t = p.t := by
  rw [frameSwap_eq]
@[simp] theorem frameSwap_x (l c : Nat) (p : Ppu) : (frameSwap l c p).x = p.x := by
  rw [frameSwap_eq]
@[simp] theorem frameSwap_w (l c : Nat) (p : Ppu) : (frameSwap l c p).w = p.w := by
  rw [frameSwap_eq]
@[simp] theorem frameSwap_bgLo (l c : Nat) (p : Ppu) : (frameSwap l c p).bgLo = p.bgLo := by
  rw [frameSwap_eq]
@[simp] theorem frameSwap_bgHi (l c : Nat) (p : Ppu) : (frameSwap l c p).bgHi = p.bgHi := by
  rw [frameSwap_eq]
@[simp] theorem frameSwap_palLatch0 (l c : Nat) (p : Ppu) : (frameSwap l c p).palLatch0 = p.palLatch0 := by
  rw [frameSwap_eq]
@[simp] theorem frameSwap_palLatch1 (l c : Nat) (p : Ppu) : (frameSwap l c p).palLatch1 = p.palLatch1 := by
  rw [frameSwap_eq]
@[simp] theorem frameSwap_ntByte (l c : Nat) (p : Ppu) : (frameSwap l c p).ntByte = p.ntByte := by
  rw [frameSwap_eq]
@[simp] theorem frameSwap_atBits (l c : Nat) (p : Ppu) : (frameSwap l c p).atBits = p.atBits := by
  rw [frameSwap_eq]
@[simp] theorem frameSwap_patLo (l c : Nat) (p : Ppu) : (frameSwap l c p).patLo = p.patLo := by
  rw [frameSwap_eq]
@[simp] theorem frameSwap_patHi (l c : Nat) (p : Ppu) : (frameSwap l c p).patHi = p.patHi := by
  rw [frameSwap_eq]
@[simp] theorem frameSwap_secEval (l c : Nat) (p : Ppu) : (frameSwap l c p).secEval = p.secEval := by
  rw [frameSwap_eq]
@[simp] theorem frameSwap_secEvalCount (l c : Nat) (p : Ppu) : (frameSwap l c p).secEvalCount = p.secEvalCount := by
  rw [frameSwap_eq]
@[simp] theorem frameSwap_secEvalHasZero (l c : Nat) (p : Ppu) : (frameSwap l c p).secEvalHasZero = p.secEvalHasZero := by
  rw [frameSwap_eq]
@[simp] theorem frameSwap_secRend (l c : Nat) (p : Ppu) : (frameSwap l c p).secRend = p.secRend := by
  rw [frameSwap_eq]
@[simp] theorem frameSwap_secRendCount (l c : Nat) (p : Ppu) : (frameSwap l c p).secRendCount = p.secRendCount := by
  rw [frameSwap_eq]
@[simp] theorem frameSwap_secRendHasZero (l c : Nat) (p : Ppu) : (frameSwap l c p).secRendHasZero = p.secRendHasZero := by
  rw [frameSwap_eq]
@[simp] theorem frameSwap_sprLo (l c : Nat) (p : Ppu) : (frameSwap l c p).sprLo = p.sprLo := by
  rw [frameSwap_eq]
@[simp] theorem frameSwap_sprHi (l c : Nat) (p : Ppu) : (frameSwap l c p).sprHi = p.sprHi := by
  rw [frameSwap_eq]
@[simp] theorem frameSwap_fb0 (l c : Nat) (p : Ppu) : (frameSwap l c p).fb0 = p.fb0 := by
  rw [frameSwap_eq]
@[simp] theorem frameSwap_fb1 (l c : Nat) (p : Ppu) : (frameSwap l c p).fb1 = p.fb1 := by
  rw [frameSwap_eq]
@[simp] theorem outputPixel_ctrl (clip : Bool) (l c : Nat) (p : Ppu) : (outputPixel clip l c p).ctrl = p.ctrl := by
  rw [outputPixel_eq]
@[simp] theorem outputPixel_mask (clip : Bool) (l c : Nat) (p : Ppu) : (outputPixel clip l c p).mask = p.mask := by
  rw [outputPixel_eq]
@[simp] theorem outputPixel_vblank (clip : Bool) (l c : Nat) (p : Ppu) : (outputPixel clip l c p).vblank = p.vblank := by
  rw [outputPixel_eq]
@[simp] theorem outputPixel_overflow (clip : Bool) (l c : Nat) (p : Ppu) : (outputPixel clip l c p).overflow = p.overflow := by
  rw [outputPixel_eq]
@[simp] theorem outputPixel_oamAddr (clip : Bool) (l c : Nat) (p : Ppu) : (outputPixel clip l c p).oamAddr = p.oamAddr := by
  rw [outputPixel_eq]
@[simp] theorem outputPixel_readBuf (clip : Bool) (l c : Nat) (p : Ppu) : (outputPixel clip l c p).readBuf = p.readBuf := by
  rw [outputPixel_eq]
@[simp] theorem outputPixel_scanline (clip : Bool) (l c : Nat) (p : Ppu) : (outputPixel clip l c p).scanline = p.scanline := by
  rw [outputPixel_eq]
@[simp] theorem outputPixel_cycle (clip : Bool) (l c : Nat) (p : Ppu) : (outputPixel clip l c p).cycle = p.cycle := by
  rw [outputPixel_eq]
@[simp] theorem outputPixel_frameOdd (clip : Bool) (l c : Nat) (p : Ppu) : (outputPixel clip l c p).frameOdd = p.frameOdd := by
  rw [outputPixel_eq]
@[simp] theorem outputPixel_oam (clip : Bool) (l c : Nat) (p : Ppu) : (outputPixel clip l c p).oam = p.oam := by
  rw [outputPixel_eq]
@[simp] theorem outputPixel_pal (clip : Bool) (l c : Nat) (p : Ppu) : (outputPixel clip l c p).pal = p.pal := by
  rw [outputPixel_eq]
@[simp] theorem outputPixel_v (clip : Bool) (l c : Nat) (p : Ppu) : (outputPixel clip l c p).v = p.v := by
  rw [outputPixel_eq]
@[simp] theorem outputPixel_t (clip : Bool) (l c : Nat) (p : Ppu) : (outputPixel clip l c p).t = p.t := by
  rw [outputPixel_eq]
@[simp] theorem outputPixel_x (clip : Bool) (l c : Nat) (p : Ppu) : (outputPixel clip l c p).x = p.x := by
  rw [outputPixel_eq]
@[simp] theorem outputPixel_w (clip : Bool) (l c : Nat) (p : Ppu) : (outputPixel clip l c p).w = p.w := by
  rw [outputPixel_eq]
@[simp] theorem outputPixel_bgLo (clip : Bool) (l c : Nat) (p : Ppu) : (outputPixel clip l c p).bgLo = p.bgLo := by
  rw [outputPixel_eq]
@[simp] theorem outputPixel_bgHi (clip : Bool) (l c : Nat) (p : Ppu) : (outputPixel clip l c p).bgHi = p.bgHi := by
  rw [outputPixel_eq]
@[simp] theorem outputPixel_palLatch0 (clip : Bool) (l c : Nat) (p : Ppu) : (outputPixel clip l c p).palLatch0 = p.palLatch0 := by
  rw [outputPixel_eq]
@[simp] theorem outputPixel_palLatch1 (clip : Bool) (l c : Nat) (p : Ppu) : (outputPixel clip l c p).palLatch1 = p.palLatch1 := by
  rw [outputPixel_eq]
@[simp] theorem outputPixel_ntByte (clip : Bool) (l c : Nat) (p : Ppu) : (outputPixel clip l c p).ntByte = p.ntByte := by
  rw [outputPixel_eq]
@[simp] theorem outputPixel_atBits (clip : Bool) (l c : Nat) (p : Ppu) : (outputPixel clip l c p).atBits = p.atBits := by
  rw [outputPixel_eq]
@[simp] theorem outputPixel_patLo (clip : Bool) (l c : Nat) (p : Ppu) : (outputPixel clip l c p).patLo = p.patLo := by
  rw [outputPixel_eq]
@[simp] theorem outputPixel_patHi (clip : Bool) (l c : Nat) (p : Ppu) : (outputPixel clip l c p).patHi = p.patHi := by
  rw [outputPixel_eq]
@[simp] theorem outputPixel_secEval (clip : Bool) (l c : Nat) (p : Ppu) : (outputPixel clip l c p).secEval = p.secEval := by
  rw [outputPixel_eq]
@[simp] theorem outputPixel_secEvalCount (clip : Bool) (l c : Nat) (p : Ppu) : (outputPixel clip l c p).secEvalCount = p.secEvalCount := by
  rw [outputPixel_eq]
@[simp] theorem outputPixel_secEvalHasZero (clip : Bool) (l c : Nat) (p : Ppu) : (outputPixel clip l c p).secEvalHasZero = p.secEvalHasZero := by
  rw [outputPixel_eq]
@[simp] theorem outputPixel_secRend (clip : Bool) (l c : Nat) (p : Ppu) : (outputPixel clip l c p).secRend = p.secRend := by
  rw [outputPixel_eq]
@[simp] theorem outputPixel_secRendCount (clip : Bool) (l c : Nat) (p : Ppu) : (outputPixel clip l c p).secRendCount = p.secRendCount := by
  rw [outputPixel_eq]
@[simp] theorem outputPixel_secRendHasZero (clip : Bool) (l c : Nat) (p : Ppu) : (outputPixel clip l c p).secRendHasZero = p.secRendHasZero := by
  rw [outputPixel_eq]
@[simp] theorem outputPixel_sprLo (clip : Bool) (l c : Nat) (p : Ppu) : (outputPixel clip l c p).sprLo = p.sprLo := by
  rw [outputPixel_eq]
@[simp] theorem outputPixel_sprHi (clip : Bool) (l c : Nat) (p : Ppu) : (outputPixel clip l c p).sprHi = p.sprHi := by
  rw [outputPixel_eq]
@[simp] theorem outputPixel_front (clip : Bool) (l c : Nat) (p : Ppu) : (outputPixel clip l c p).front = p.front := by
  rw [outputPixel_eq]
@[simp] theorem backgroundStep_ctrl (l c : Nat) (s : State) : (backgroundStep l c s).ppu.ctrl = s.ppu.ctrl := by
  rw [backgroundStep_eq]
  rfl
@[simp] theorem backgroundStep_mask (l c : Nat) (s : State) : (backgroundStep l c s).ppu.mask = s.ppu.mask := by
  rw [backgroundStep_eq]
  rfl
@[simp] theorem backgroundStep_vblank (l c : Nat) (s : State) : (backgroundStep l c s).ppu.vblank = s.ppu.vblank := by
  rw [backgroundStep_eq]
  rfl
@[simp] theorem backgroundStep_sprite0 (l c : Nat) (s : State) : (backgroundStep l c s).ppu.sprite0 = s.ppu.sprite0 := by
  rw [backgroundStep_eq]
  rfl
@[simp] theorem backgroundStep_overflow (l c : Nat) (s : State) : (backgroundStep l c s).ppu.overflow = s.ppu.overflow := by
  rw [backgroundStep_eq]
  rfl
@[simp] theorem backgroundStep_oamAddr (l c : Nat) (s : State) : (backgroundStep l c s).ppu.oamAddr = s.ppu.oamAddr := by
  rw [backgroundStep_eq]
  rfl
@[simp] theorem backgroundStep_readBuf (l c : Nat) (s : State) : (backgroundStep l c s).ppu.readBuf = s.ppu.readBuf := by
  rw [backgroundStep_eq]
  rfl
@[simp] theorem backgroundStep_scanline (l c : Nat) (s : State) : (backgroundStep l c s).ppu.scanline = s.ppu.scanline := by
  rw [backgroundStep_eq]
  rfl
@[simp] theorem backgroundStep_cycle (l c : Nat) (s : State) : (backgroundStep l c s).ppu.cycle = s.ppu.cycle := by
  rw [backgroundStep_eq]
  rfl
@[simp] theorem backgroundStep_frameOdd (l c : Nat) (s : State) : (backgroundStep l c s).ppu.frameOdd = s.ppu.frameOdd := by
  rw [backgroundStep_eq]
  rfl
@[simp] theorem backgroundStep_oam (l c : Nat) (s : State) : (backgroundStep l c s).ppu.oam = s.ppu.oam := by
  rw [backgroundStep_eq]
  rfl
@[simp] theorem backgroundStep_pal (l c : Nat) (s : State) : (backgroundStep l c s).ppu.pal = s.ppu.pal := by
  rw [backgroundStep_eq]
  rfl
@[simp] theorem backgroundStep_t (l c : Nat) (s : State) : (backgroundStep l c s).ppu.t = s.ppu.t := by
  rw [backgroundStep_eq]
  rfl
@[simp] theorem backgroundStep_x (l c : Nat) (s : State) : (backgroundStep l c s).ppu.x = s.ppu.x := by
  rw [backgroundStep_eq]
  rfl
@[simp] theorem backgroundStep_w (l c : Nat) (s : State) : (backgroundStep l c s).ppu.w = s.ppu.w := by
  rw [backgroundStep_eq]
  rfl
@[simp] theorem backgroundStep_secEval (l c : Nat) (s : State) : (backgroundStep l c s).ppu.secEval = s.ppu.secEval := by
  rw [backgroundStep_eq]
  rfl
@[simp] theorem backgroundStep_secEvalCount (l c : Nat) (s : State) : (backgroundStep l c s).ppu.secEvalCount = s.ppu.secEvalCount := by
  rw [backgroundStep_eq]
  rfl
@[simp] theorem backgroundStep_secEvalHasZero (l c : Nat) (s : State) : (backgroundStep l c s).ppu.secEvalHasZero = s.ppu.secEvalHasZero := by
  rw [backgroundStep_eq]
  rfl
@[simp] theorem backgroundStep_secRend (l c : Nat) (s : State) : (backgroundStep l c s).ppu.secRend = s.ppu.secRend := by
  rw [backgroundStep_eq]
  rfl
@[simp] theorem backgroundStep_secRendCount (l c : Nat) (s : State) : (backgroundStep l c s).ppu.secRendCount = s.ppu.secRendCount := by
  rw [backgroundStep_eq]
  rfl
@[simp] theorem backgroundStep_secRendHasZero (l c : Nat) (s : State) : (backgroundStep l c s).ppu.secRendHasZero = s.ppu.secRendHasZero := by
  rw [backgroundStep_eq]
  rfl
@[simp] theorem backgroundStep_sprLo (l c : Nat) (s : State) : (backgroundStep l c s).ppu.sprLo = s.ppu.sprLo := by
  rw [backgroundStep_eq]
  rfl
@[simp] theorem backgroundStep_sprHi (l c : Nat) (s : State) : (backgroundStep l c s).ppu.sprHi = s.ppu.sprHi := by
  rw [backgroundStep_eq]
  rfl
@[simp] theorem backgroundStep_fb0 (l c : Nat) (s : State) : (backgroundStep l c s).ppu.fb0 = s.ppu.fb0 := by
  rw [backgroundStep_eq]
  rfl
@[simp] theorem backgroundStep_fb1 (l c : Nat) (s : State) : (backgroundStep l c s).ppu.fb1 = s.ppu.fb1 := by
  rw [backgroundStep_eq]
  rfl
@[simp] theorem backgroundStep_front (l c : Nat) (s : State) : (backgroundStep l c s).ppu.front = s.ppu.front := by
  rw [backgroundStep_eq]
  rfl
@[simp] theorem spriteStep_ctrl (l c : Nat) (s : State) : (spriteStep l c s).ppu.ctrl = s.ppu.ctrl := by
  rw [spriteStep_keeps]
  rfl
@[simp] theorem spriteStep_mask (l c : Nat) (s : State) : (spriteStep l c s).ppu.mask = s.ppu.mask := by
  rw [spriteStep_keeps]
  rfl
@[simp] theorem spriteStep_vblank (l c : Nat) (s : State) : (spriteStep l c s).ppu.vblank = s.ppu.vblank := by
  rw [spriteStep_keeps]
  rfl
@[simp] theorem spriteStep_sprite0 (l c : Nat) (s : State) : (spriteStep l c s).ppu.sprite0 = s.ppu.sprite0 := by
  rw [spriteStep_keeps]
  rfl
@[simp] theorem spriteStep_readBuf (l c : Nat) (s : State) : (spriteStep l c s).ppu.readBuf = s.ppu.readBuf := by
  rw [spriteStep_keeps]
  rfl
@[simp] theorem spriteStep_scanline (l c : Nat) (s : State) : (spriteStep l c s).ppu.scanline = s.ppu.scanline := by
  rw [spriteStep_keeps]
  rfl
@[simp] theorem spriteStep_cycle (l c : Nat) (s : State) : (spriteStep l c s).ppu.cycle = s.ppu.cycle := by
  rw [spriteStep_keeps]
  rfl
@[simp] theorem spriteStep_frameOdd (l c : Nat) (s : State) : (spriteStep l c s).ppu.frameOdd = s.ppu.frameOdd := by
  rw [spriteStep_keeps]
  rfl
@[simp] theorem spriteStep_oam (l c : Nat) (s : State) : (spriteStep l c s).ppu.oam = s.ppu.oam := by
  rw [spriteStep_keeps]
  rfl
@[simp] theorem spriteStep_pal (l c : Nat) (s : State) : (spriteStep l c s).ppu.pal = s.ppu.pal := by
  rw [spriteStep_keeps]
  rfl
@[simp] theorem spriteStep_v (l c : Nat) (s : State) : (spriteStep l c s).ppu.v = s.ppu.v := by
  rw [spriteStep_keeps]
  rfl
@[simp] theorem spriteStep_t (l c : Nat) (s : State) : (spriteStep l c s).ppu.t = s.ppu.t := by
  rw [spriteStep_keeps]
  rfl
@[simp] theorem spriteStep_x (l c : Nat) (s : State) : (spriteStep l c s).ppu.x = s.ppu.x := by
  rw [spriteStep_keeps]
  rfl
@[simp] theorem spriteStep_w (l c : Nat) (s : State) : (spriteStep l c s).ppu.w = s.ppu.w := by
  rw [spriteStep_keeps]
  rfl
@[simp] theorem spriteStep_bgLo (l c : Nat) (s : State) : (spriteStep l c s).ppu.bgLo = s.ppu.bgLo := by
  rw [spriteStep_keeps]
  rfl
@[simp] theorem spriteStep_bgHi (l c : Nat) (s : State) : (spriteStep l c s).ppu.bgHi = s.ppu.bgHi := by
  rw [spriteStep_keeps]
  rfl
@[simp] theorem spriteStep_palLatch0 (l c : Nat) (s : State) : (spriteStep l c s).ppu.palLatch0 = s.ppu.palLatch0 := by
  rw [spriteStep_keeps]
  rfl
@[simp] theorem spriteStep_palLatch1 (l c : Nat) (s : State) : (spriteStep l c s).ppu.palLatch1 = s.ppu.palLatch1 := by
  rw [spriteStep_keeps]
  rfl
@[simp] theorem spriteStep_ntByte (l c : Nat) (s : State) : (spriteStep l c s).ppu.ntByte = s.ppu.ntByte := by
  rw [spriteStep_keeps]
  rfl
@[simp] theorem spriteStep_atBits (l c : Nat) (s : State) : (spriteStep l c s).ppu.atBits = s.ppu.atBits := by
  rw [spriteStep_keeps]
  rfl
@[simp] theorem spriteStep_patLo (l c : Nat) (s : State) : (spriteStep l c s).ppu.patLo = s.ppu.patLo := by
  rw [spriteStep_keeps]
  rfl
@[simp] theorem spriteStep_patHi (l c : Nat) (s : State) : (spriteStep l c s).ppu.patHi = s.ppu.patHi := by
  rw [spriteStep_keeps]
  rfl
@[simp] theorem spriteStep_fb0 (l c : Nat) (s : State) : (spriteStep l c s).ppu.fb0 = s.ppu.fb0 := by
  rw [spriteStep_keeps]
  rfl
@[simp] theorem spriteStep_fb1 (l c : Nat) (s : State) : (spriteStep l c s).ppu.fb1 = s.ppu.fb1 := by
  rw [spriteStep_keeps]
  rfl
@[simp] theorem spriteStep_front (l c : Nat) (s : State) : (spriteStep l c s).ppu.front = s.ppu.front := by
  rw [spriteStep_keeps]
  rfl

/-- What part 1 leaves of the PPU. -/
theorem flagEvents_ppu (l c : Nat) (s : State) :
    (flagEvents l c s).ppu =
      if l = 241 ∧ c = 1 then { s.ppu with vblank := true }
      else if l = 261 ∧ c = 1 then preRenderClear s.ppu else s.ppu := by
  unfold flagEvents
  split
  · rw [vblankStart_eq]
    rfl
  · split <;> rfl

/-- Part 2 on a rendering line with rendering enabled. -/
theorem renderWork_on (l c : Nat) (s : State) (hl : renderingLine l = true) (he : renderingEnabled s.ppu = true) :
    renderWork l c s = spriteStep l c (backgroundStep l c
      (s.setPpu (if l ≤ 239 ∧ 1 ≤ c ∧ c ≤ 256 then outputPixel s.params.leftClip l c s.ppu else s.ppu))) := by
  unfold renderWork
  rw [if_pos (by rw [hl, he]; rfl)]
  simp only
  split <;> rfl

/-- Part 2 elsewhere. -/
theorem renderWork_off (l c : Nat) (s : State) (h : renderingLine l = false ∨ renderingEnabled s.ppu = false) :
    renderWork l c s = s := by
  unfold renderWork
  rw [if_neg]
  rcases h with h | h <;> simp [h]

/-- The PPU after a pulse. -/
theorem ppuPulse_ppu (s : State) :
    (ppuPulse s).ppu = advance (frameSwap s.ppu.scanline s.ppu.cycle
      (renderWork s.ppu.scanline s.ppu.cycle (flagEvents s.ppu.scanline s.ppu.cycle s)).ppu) := rfl

/-- On a rendering line part 1 does at most the pre-render clear. -/
theorem flagEvents_rendering (l c : Nat) (s : State) (hl : renderingLine l = true) :
    flagEvents l c s = s.setPpu (if l = 261 ∧ c = 1 then preRenderClear s.ppu else s.ppu) := by
  apply flagEvents_eq
  rintro ⟨rfl, -⟩
  exact absurd hl (by decide)

/-- The PPU as the background step of a pulse finds it: after the pre-render clear and the pixel. -/
def beforeBackground (s : State) : Ppu :=
  let p := if s.ppu.scanline = 261 ∧ s.ppu.cycle = 1 then preRenderClear s.ppu else s.ppu
  if s.ppu.scanline ≤ 239 ∧ 1 ≤ s.ppu.cycle ∧ s.ppu.cycle ≤ 256
    then outputPixel s.params.leftClip s.ppu.scanline s.ppu.cycle p else p

/-- The PPU after a pulse on a rendering line with rendering enabled. -/
theorem ppuPulse_on (s : State) (hl : renderingLine s.ppu.scanline = true) (he : renderingEnabled s.ppu = true) :
    (ppuPulse s).ppu = advance (frameSwap s.ppu.scanline s.ppu.cycle
      (spriteStep s.ppu.scanline s.ppu.cycle
        (backgroundStep s.ppu.scanline s.ppu.cycle (s.setPpu (beforeBackground s)))).ppu) := by
  rw [ppuPulse_ppu, flagEvents_rendering _ _ _ hl, renderWork_on _ _ _ hl]
  · rfl
  · split
    · exact he
    · exact he

/-- What the clear and the pixel write. -/
theorem beforeBackground_eq (s : State) :
    beforeBackground s = { s.ppu with
      vblank := (beforeBackground s).vblank, sprite0 := (beforeBackground s).sprite0
      overflow := (beforeBackground s).overflow, fb0 := (beforeBackground s).fb0
      fb1 := (beforeBackground s).fb1 } := by
  simp only [beforeBackground, outputPixel_eq, preRenderClear]
  split <;> split <;> rfl

/-- The overflow flag changes there only at the pre-render clear. -/
theorem beforeBackground_overflow (s : State) (h : ¬(s.ppu.scanline = 261 ∧ s.ppu.cycle = 1)) :
    (beforeBackground s).overflow = s.ppu.overflow := by
  simp only [beforeBackground, if_neg h]
  split
  · rw [outputPixel_eq]
  · rfl

end Sys2Proof.Machine
end

