-- ==== Sys2Proof/Laws/Invariant.lean ====
section
/-! SUPPORT. Every memory operation keeps the canonical form, and every shared operation and every part of a PPU pulse
keeps the invariant `State.inv`. -/

namespace Sys2Proof.Machine

theorem Cpu.inv_iff (c : Cpu) : c.inv = true ↔ flagU c.p = true ∧ flagB c.p = false := by simp [Cpu.inv]

theorem Ppu.inv_iff (p : Ppu) : p.inv = true ↔
    p.scanline ≤ 261 ∧ p.cycle ≤ 340 ∧ p.secEvalCount ≤ 8 ∧ p.secRendCount ≤ 8 ∧
      p.oam.wf unlistedByte 256 = true ∧ p.pal.wf unlistedByte 32 = true ∧
      p.pal.all (fun c => decide (palIndex c.1 = c.1)) = true ∧
      p.secEval.wf unlistedSecondary 32 = true ∧ p.secRend.wf unlistedSecondary 32 = true ∧
      p.sprLo.wf unlistedByte 8 = true ∧ p.sprHi.wf unlistedByte 8 = true ∧
      p.fb0.wf unlistedByte 184320 = true ∧ p.fb1.wf unlistedByte 184320 = true := by
  simp only [Ppu.inv, Bool.and_eq_true, decide_eq_true_eq, and_assoc]
  rfl

theorem Cart.inv_iff (c : Cart) : c.inv = true ↔
    1 ≤ c.prgBanks ∧ c.prgBanks ≤ 32 ∧ c.chrBanks ≤ 32 ∧ c.prgRom.wf unlistedByte (c.prgBanks * 16384) = true ∧
      c.chr.wf unlistedByte (chrBankCount c * 8192) = true ∧ c.prgRam.wf unlistedByte 8192 = true := by
  simp only [Cart.inv, Bool.and_eq_true, decide_eq_true_eq, and_assoc]
  rfl

theorem State.inv_iff (s : State) : s.inv = true ↔
    s.cpu.inv = true ∧ s.ppu.inv = true ∧ s.ram.wf unlistedByte 2048 = true ∧ s.vram.wf unlistedByte 2048 = true ∧
      s.cart.inv = true ∧ s.mapper.inv = true := by
  simp only [State.inv, Bool.and_eq_true, and_assoc]
  rfl

/-- The invariant of a state whose CPU alone was replaced. -/
theorem State.inv_cpu {s t : State} (h : s.inv = true) (ho : OutsideIs s t) (hc : t.cpu.inv = true) :
    t.inv = true := by
  obtain ⟨_, h2, h3, h4, h5, h6⟩ := (State.inv_iff s).1 h
  obtain ⟨o1, o2, o3, o4, o5, _⟩ := ho
  refine (State.inv_iff t).2 ⟨hc, ?_⟩
  rw [o1, o2, o3, o4, o5]
  exact ⟨h2, h3, h4, h5, h6⟩

theorem State.inv_setPpu {s : State} {p : Ppu} (h : s.inv = true) (hp : p.inv = true) : (s.setPpu p).inv = true := by
  obtain ⟨h1, _, h3⟩ := (State.inv_iff s).1 h
  exact (State.inv_iff _).2 ⟨h1, hp, h3⟩

theorem State.inv_ppu {s : State} (h : s.inv = true) : s.ppu.inv = true := ((State.inv_iff s).1 h).2.1

/-! ### Memory operations -/

theorem ramWrite_inv {s : State} {i : Nat} {v : Byte} (h : s.inv = true) (hi : i < 2048) :
    (ramWrite s i v).inv = true := by
  obtain ⟨h1, h2, h3, h4⟩ := (State.inv_iff s).1 h
  exact (State.inv_iff _).2 ⟨h1, h2, Memory.wf_write h3 hi, h4⟩

theorem vramWrite_inv {s : State} {i : Nat} {v : Byte} (h : s.inv = true) (hi : i < 2048) :
    (vramWrite s i v).inv = true := by
  obtain ⟨h1, h2, h3, h4, h5⟩ := (State.inv_iff s).1 h
  exact (State.inv_iff _).2 ⟨h1, h2, h3, Memory.wf_write h4 hi, h5⟩

theorem prgRamWrite_inv {s : State} {i : Nat} {v : Byte} (h : s.inv = true) (hi : i < 8192) :
    (prgRamWrite s i v).inv = true := by
  obtain ⟨h1, h2, h3, h4, h5, h6⟩ := (State.inv_iff s).1 h
  obtain ⟨c1, c2, c3, c4, c5, c6⟩ := (Cart.inv_iff _).1 h5
  exact (State.inv_iff _).2 ⟨h1, h2, h3, h4,
    (Cart.inv_iff _).2 ⟨c1, c2, c3, c4, c5, Memory.wf_write c6 hi⟩, h6⟩

theorem chrWrite_inv {s : State} {i : Nat} {v : Byte} (h : s.inv = true) (hi : i < chrBankCount s.cart * 8192) :
    (chrWrite s i v).inv = true := by
  obtain ⟨h1, h2, h3, h4, h5, h6⟩ := (State.inv_iff s).1 h
  obtain ⟨c1, c2, c3, c4, c5, c6⟩ := (Cart.inv_iff _).1 h5
  exact (State.inv_iff _).2 ⟨h1, h2, h3, h4,
    (Cart.inv_iff _).2 ⟨c1, c2, c3, c4, Memory.wf_write c5 hi, c6⟩, h6⟩

theorem oamWrite_inv {p : Ppu} {i : Nat} {v : Byte} (h : p.inv = true) (hi : i < 256) :
    (oamWrite p i v).inv = true := by
  obtain ⟨h1, h2, h3, h4, h5, h6⟩ := (Ppu.inv_iff p).1 h
  exact (Ppu.inv_iff _).2 ⟨h1, h2, h3, h4, Memory.wf_write h5 hi, h6⟩

theorem Memory.all_write {P : Host.Cell → Bool} {d v : Byte} {a : Nat} {m : Memory} (h : m.all P = true)
    (ha : P (a, v) = true) : (Memory.write d m a v).all P = true := by
  induction m with
  | nil => simp only [Memory.write]; split <;> simp [ha]
  | cons c m ih =>
    simp only [List.all_cons, Bool.and_eq_true] at h
    simp only [Memory.write]
    split
    · next hac => split <;> simp [h.2, ← hac, ha]
    · split
      · split <;> simp [h.1, h.2, ha]
      · simp [h.1, ih h.2]

theorem Ppu.inv_oamAddr (p : Ppu) (v : Byte) : ({ p with oamAddr := v } : Ppu).inv = p.inv := rfl

theorem palIndex_lt (i : Nat) : palIndex i < 32 := by
  have h : ∀ j, j < 32 → (if j &&& 0x13 = 0x10 then j &&& 0x0F else j) < 32 := by decide
  exact h _ (Nat.mod_lt _ (by decide))

theorem palIndex_palIndex (i : Nat) : palIndex (palIndex i) = palIndex i := by
  have h : ∀ j, j < 32 → palIndex (palIndex j) = palIndex j := by decide
  have e : palIndex i = palIndex (i % 32) := by simp [palIndex]
  rw [e, h _ (Nat.mod_lt _ (by decide))]

theorem palWrite_inv {p : Ppu} {i : Nat} {v : Byte} (h : p.inv = true) : (palWrite p i v).inv = true := by
  obtain ⟨h1, h2, h3, h4, h5, h6, h7, h8⟩ := (Ppu.inv_iff p).1 h
  exact (Ppu.inv_iff _).2 ⟨h1, h2, h3, h4, h5, Memory.wf_write h6 (palIndex_lt i),
    Memory.all_write h7 (by simp [palIndex_palIndex]), h8⟩

/-- Masking above bit 10 acts on the 1 KB number alone. -/
theorem and_kilo (t m r : Nat) (hr : r < 1024) : (1024 * t + r) &&& (1024 * m + 1023) = 1024 * (t &&& m) + r := by
  refine Nat.eq_of_testBit_eq fun j => ?_
  rw [Nat.testBit_and, show (1024 : Nat) = 2 ^ 10 from rfl, Nat.testBit_two_pow_mul_add t hr,
    Nat.testBit_two_pow_mul_add m (by decide : 1023 < 2 ^ 10), Nat.testBit_two_pow_mul_add (t &&& m) hr]
  split
  · next hj =>
    rw [show (1023 : Nat) = 2 ^ 10 - 1 from rfl, Nat.testBit_two_pow_sub_one]
    simp [hj]
  · rw [Nat.testBit_and]

/-- The nametable byte of an address: the 1 KB half the mode selects, and the offset in it (20_memory.md R99, R100). -/
theorem ntIndex_eq (mode : Mirroring) (a : Nat) :
    ntIndex mode a = (match mode with
      | .vertical => a / 1024 % 4 % 2
      | .horizontal => a / 1024 % 4 / 2
      | .singleLow => 0
      | .singleHigh => 1) * 1024 + a % 1024 := by
  have ho : a &&& 0x0FFF = 1024 * (a / 1024 % 4) + a % 1024 := by
    rw [show (0x0FFF : Nat) = 2 ^ 12 - 1 from rfl, Nat.and_two_pow_sub_one_eq_mod]
    omega
  have hr : a % 1024 < 1024 := Nat.mod_lt _ (by decide)
  have ht : a / 1024 % 4 = 0 ∨ a / 1024 % 4 = 1 ∨ a / 1024 % 4 = 2 ∨ a / 1024 % 4 = 3 := by omega
  cases mode with
  | vertical =>
    simp only [ntIndex, mirrorOffset, ho]
    rw [show (0x07FF : Nat) = 1024 * 1 + 1023 from rfl, and_kilo _ _ _ hr]
    rcases ht with h | h | h | h <;> rw [h] <;> simp <;> omega
  | horizontal =>
    simp only [ntIndex, mirrorOffset, ho]
    rw [show (0x0BFF : Nat) = 1024 * 2 + 1023 from rfl, and_kilo _ _ _ hr]
    rcases ht with h | h | h | h <;> rw [h] <;> simp <;> omega
  | singleLow =>
    simp only [ntIndex, mirrorOffset, ho]
    rw [show (0x03FF : Nat) = 1024 * 0 + 1023 from rfl, and_kilo _ _ _ hr]
    simp
    omega
  | singleHigh =>
    simp only [ntIndex, mirrorOffset, ho]
    rw [show (0x03FF : Nat) = 1024 * 0 + 1023 from rfl, and_kilo _ _ _ hr, Nat.and_zero, Nat.mul_zero,
      Nat.zero_add, Nat.or_comm, show (0x0400 : Nat) = 2 ^ 10 * 1 from rfl, ← Nat.two_pow_add_eq_or_of_lt hr]
    split <;> omega

theorem ntIndex_lt (mode : Mirroring) (a : Nat) : ntIndex mode a < 2048 := by
  rw [ntIndex_eq]
  have : a % 1024 < 1024 := Nat.mod_lt _ (by decide)
  cases mode <;> simp only <;> omega

theorem chrBankCount_pos (c : Cart) : 1 ≤ chrBankCount c := by
  unfold chrBankCount
  split
  · decide
  · omega

theorem chrUnitMod_lt (c : Cart) (n : Nat) : chrUnitMod c n < 2 * chrBankCount c :=
  Nat.mod_lt _ (by have := chrBankCount_pos c; omega)

/-- Every pattern address reaches a byte inside CHR storage. -/
theorem chrCell_lt (s : State) (a : Nat) (ha : a ≤ 0x1FFF) : chrCell s a < chrBankCount s.cart * 8192 := by
  have hp := chrBankCount_pos s.cart
  unfold chrCell
  split
  · omega
  · next r _ =>
    have h : mmc1ChrUnit s.cart r (decide (0x1000 ≤ a)) < 2 * chrBankCount s.cart := by
      unfold mmc1ChrUnit
      split <;> exact chrUnitMod_lt _ _
    omega
  · omega

theorem ppuWr_inv {s : State} {a : BitVec 14} {v : Byte} (h : s.inv = true) : (ppuWr s a v).inv = true := by
  unfold ppuWr mapperPpuWrite
  split
  · split
    · exact chrWrite_inv h (chrCell_lt s _ (by assumption))
    · exact h
  · exact vramWrite_inv h (ntIndex_lt _ _)

theorem incV_inv {p : Ppu} (h : p.inv = true) : (incV p).inv = true := by
  unfold incV
  split <;> exact h

theorem ppuRegTouch_inv {s : State} {r : Nat} (h : s.inv = true) : (ppuRegTouch s r).inv = true := by
  have hp := s.inv_ppu h
  unfold ppuRegTouch
  split
  · exact State.inv_setPpu h hp
  · have hb : ({ s.ppu with readBuf := ppuRd s (dataPortAddr s.ppu) } : Ppu).inv = s.ppu.inv := rfl
    exact State.inv_setPpu h (incV_inv (hb.trans hp))
  · exact h

theorem ppuRegWrite_inv {s : State} {r : Nat} {v : Byte} (h : s.inv = true) : (ppuRegWrite s r v).inv = true := by
  have hp := s.inv_ppu h
  unfold ppuRegWrite
  split
  · exact State.inv_setPpu h hp
  · exact State.inv_setPpu h hp
  · exact State.inv_setPpu h hp
  · have ho := oamWrite_inv (i := s.ppu.oamAddr.toNat) (v := v) hp s.ppu.oamAddr.isLt
    exact State.inv_setPpu h ((Ppu.inv_oamAddr _ _).trans ho)
  · unfold scrollWrite
    split <;> exact State.inv_setPpu h hp
  · unfold addrWrite
    split <;> exact State.inv_setPpu h hp
  · have hs : (dataPortStore s v).inv = true := by
      unfold dataPortStore
      split
      · exact State.inv_setPpu h (palWrite_inv hp)
      · exact ppuWr_inv h
    exact State.inv_setPpu hs (incV_inv (State.inv_ppu hs))
  · exact h

theorem mmc1Serial_wcount {r : Mmc1} (a : Nat) (v : Byte) (h : r.wcount ≤ 4) : (mmc1Serial r a v).wcount ≤ 4 := by
  unfold mmc1Serial
  split
  · simp
  · simp only
    split
    · split
      · simp
      · split
        · simp
        · split <;> simp
    · simp only
      omega

theorem State.inv_setMapper {s : State} {m : Mapper} (h : s.inv = true) (hm : m.inv = true) :
    (s.setMapper m).inv = true := by
  obtain ⟨h1, h2, h3, h4, h5, _⟩ := (State.inv_iff s).1 h
  exact (State.inv_iff _).2 ⟨h1, h2, h3, h4, h5, hm⟩

theorem mapperCpuWrite_inv {s : State} {a : Nat} {v : Byte} (h : s.inv = true) (ha : 0x6000 ≤ a) :
    (mapperCpuWrite s a v).inv = true := by
  have hm : s.mapper.inv = true := ((State.inv_iff s).1 h).2.2.2.2.2
  unfold mapperCpuWrite
  split
  · split
    · exact prgRamWrite_inv h (by omega)
    · exact h
  · split
    · exact h
    · next r hr =>
      rw [hr] at hm
      exact State.inv_setMapper h (by simpa [Mapper.inv] using mmc1Serial_wcount a v (by simpa [Mapper.inv] using hm))
    · exact State.inv_setMapper h rfl

theorem State.inv_setPad1 {s : State} {p : Option Pad} (h : s.inv = true) : (s.setPad1 p).inv = true := h
theorem State.inv_setPad2 {s : State} {p : Option Pad} (h : s.inv = true) : (s.setPad2 p).inv = true := h
theorem State.inv_setInputs {s : State} {l : List HostInputs} (h : s.inv = true) : (s.setInputs l).inv = true := h

theorem busTouch_inv {s : State} {a : Addr} (h : s.inv = true) : (busTouch s a).inv = true := by
  unfold busTouch
  split
  · exact h
  · exact ppuRegTouch_inv h
  · exact h
  · exact h
  · exact h
  · exact h
  · exact h

theorem dmaBytes_inv {page : Byte} {n i : Nat} {s : State} (h : s.inv = true) : (dmaBytes page n i s).inv = true := by
  induction n generalizing i s with
  | zero => exact h
  | succ n ih =>
    refine ih ?_
    have ht : (busTouch s (word16 page (BitVec.ofNat 8 i))).inv = true := busTouch_inv h
    exact State.inv_setPpu ht (oamWrite_inv (State.inv_ppu ht) (BitVec.isLt _))

theorem busRegion_mapper_ge {a : Addr} (h : busRegion a = .mapper) : 0x6000 ≤ a.toNat := by
  unfold busRegion at h
  repeat' split at h
  all_goals first | (exact absurd h (by decide)) | omega

/-- A bus write keeps the invariant: in particular it keeps every memory canonical and of its size. -/
theorem busWrite_inv {s : State} {a : Addr} {v : Byte} (h : s.inv = true) : (busWrite s a v).inv = true := by
  unfold busWrite
  split
  · exact ramWrite_inv h (Nat.mod_lt _ (by decide))
  · exact ppuRegWrite_inv h
  · have hd := dmaBytes_inv (page := v) (n := 256) (i := 0) h
    unfold oamDma
    generalize dmaBytes v 256 0 s = u at hd
    exact hd
  · exact h
  · exact h
  · exact h
  · next hr => exact mapperCpuWrite_inv h (busRegion_mapper_ge hr)

/-! ### The stack, entries and the host's calls -/

theorem push_inv {v : Byte} {s : State} (h : s.inv = true) : (push v s).inv = true := busWrite_inv (s := s) h

theorem pull_inv {s : State} (h : s.inv = true) : (pull s).2.inv = true := busTouch_inv (s := s.setS _) h

theorem pushWord_inv {v : Addr} {s : State} (h : s.inv = true) : (pushWord v s).inv = true := push_inv (push_inv h)

theorem State.inv_setP {v : Byte} {s : State} (h : s.inv = true) (hu : flagU v = true) (hb : flagB v = false) :
    (s.setP v).inv = true :=
  State.inv_cpu h (OutsideIs.refl _) ((Cpu.inv_iff _).2 ⟨hu, hb⟩)

theorem State.inv_flags {s : State} (h : s.inv = true) : flagU s.cpu.p = true ∧ flagB s.cpu.p = false :=
  (Cpu.inv_iff _).1 ((State.inv_iff s).1 h).1

/-- Taking an exception keeps the invariant. -/
theorem takeException_inv {vector : Addr} {bflag : Bool} {s : State} (h : s.inv = true) :
    (takeException vector bflag s).inv = true := by
  have h1 : (push (pushedByEntry bflag (pushWord s.cpu.pc s).cpu.p) (pushWord s.cpu.pc s)).inv = true :=
    push_inv (pushWord_inv h)
  obtain ⟨hu, hb⟩ := State.inv_flags h1
  have h2 := State.inv_setP (v := putI true _) h1 (by simpa using hu) (by simpa using hb)
  exact busTouch_inv (s := busTouch _ vector) (busTouch_inv h2)

theorem charge7_inv {s : State} (h : s.inv = true) : (charge7 s).inv = true := by
  unfold charge7
  split <;> exact h

theorem enterInterrupt_inv {vector : Addr} {s : State} (h : s.inv = true) : (enterInterrupt vector s).inv = true :=
  charge7_inv (takeException_inv h)

theorem nmi_inv {s : State} (h : s.inv = true) : (nmi s).inv = true := enterInterrupt_inv h

theorem hostReset_inv {s : State} (h : s.inv = true) : (hostReset s).inv = true := by
  have h1 : (rd16 s Config.resetVector).2.inv = true := busTouch_inv (busTouch_inv h)
  have hp := State.inv_ppu h1
  have h2 := State.inv_cpu (t := (rd16 s Config.resetVector).2.withCpu
    { (rd16 s Config.resetVector).2.cpu with
      pc := (rd16 s Config.resetVector).1, s := 0xFD#8, p := 0x24#8, cyc := 7, fetched := 0#8, addr := 0#16 })
    h1 (OutsideIs.refl (rd16 s Config.resetVector).2)
    ((Cpu.inv_iff _).2 ⟨by simp only [State.withCpu_cpu]; decide, by simp only [State.withCpu_cpu]; decide⟩)
  exact State.inv_setPpu h2 hp

theorem hostEvents_inv {es : List HostEvent} {s : State} (h : s.inv = true) : (hostEvents es s).inv = true := by
  induction es generalizing s with
  | nil => exact h
  | cons e es ih =>
    refine ih ?_
    cases e with
    | reset => exact hostReset_inv h
    | irq =>
      simp only [hostEvent, irq]
      split
      · exact h
      · exact enterInterrupt_inv h
    | buttons1 b => exact h
    | buttons2 b => exact h

/-! ### The PPU pulse -/

theorem writePixel_wf {fb : Memory} {row col : Nat} {c : Rgb} (h : fb.wf unlistedByte 184320 = true) (hr : row < 240)
    (hc : col < 256) : (writePixel fb row col c).wf unlistedByte 184320 = true := by
  have hb : pixelBase row col + 2 < 184320 := by
    unfold pixelBase
    omega
  exact Memory.wf_write (Memory.wf_write (Memory.wf_write h (by omega)) (by omega)) hb

theorem outputPixel_inv {clip : Bool} {l c : Nat} {p : Ppu} (h : p.inv = true) (hl : l ≤ 239) (h1 : 1 ≤ c)
    (hc : c ≤ 256) : (outputPixel clip l c p).inv = true := by
  obtain ⟨i1, i2, i3, i4, i5, i6, i7, i8, i9, i10, i11, i12, i13⟩ := (Ppu.inv_iff p).1 h
  have hb : (backBuffer p).wf unlistedByte 184320 = true := by
    unfold backBuffer
    split <;> assumption
  have hw := writePixel_wf (row := l) (col := c - 1) (c := colour p (pixelIndexAt clip p c)) hb (by omega) (by omega)
  rw [outputPixel_eq]
  refine (Ppu.inv_iff _).2 ⟨i1, i2, i3, i4, i5, i6, i7, i8, i9, i10, i11, ?_, ?_⟩ <;> simp only <;> split <;> assumption

theorem clearStep_inv {c : Nat} {p : Ppu} (h : p.inv = true) (h1 : 1 ≤ c) (hc : c ≤ 64) :
    (clearStep c p).inv = true := by
  obtain ⟨i1, i2, i3, i4, i5, i6, i7, i8, i9⟩ := (Ppu.inv_iff p).1 h
  rw [clearStep_eq]
  refine (Ppu.inv_iff _).2 ⟨i1, i2, ?_, i4, i5, i6, i7, ?_, i9⟩
  · simp only
    split
    · decide
    · exact i3
  · simp only
    split
    · exact Memory.wf_write i8 (by omega)
    · exact i8

theorem copiedSprite_wf {n : Nat} {p : Ppu} (h : p.secEval.wf unlistedSecondary 32 = true) (hc : p.secEvalCount < 8) :
    (copiedSprite n p).wf unlistedSecondary 32 = true :=
  Memory.wf_write (Memory.wf_write (Memory.wf_write (Memory.wf_write h (by omega)) (by omega)) (by omega)) (by omega)

theorem scanStep_inv {l c : Nat} {p : Ppu} (h : p.inv = true) : (scanStep l c p).inv = true := by
  unfold scanStep
  split
  · obtain ⟨i1, i2, i3, i4, i5, i6, i7, i8, i9⟩ := (Ppu.inv_iff p).1 h
    rw [examineSprite_eq]
    refine (Ppu.inv_iff _).2 ⟨i1, i2, ?_, i4, i5, i6, i7, ?_, i9⟩
    · simp only
      split <;> omega
    · simp only
      split
      · next hc => exact copiedSprite_wf i8 hc.2
      · exact i8
  · exact h

theorem spriteStep_inv {l c : Nat} {s : State} (h : s.inv = true) : (spriteStep l c s).inv = true := by
  have hp := s.inv_ppu h
  unfold spriteStep
  split
  · next hc => exact State.inv_setPpu h (clearStep_inv hp hc.1 hc.2)
  · split
    · split
      · exact State.inv_setPpu h (scanStep_inv hp)
      · exact h
    · split
      · next hc =>
        have h1 : ∀ q : Ppu, q.inv = true → (spriteFetchStep l c (s.setPpu { q with oamAddr := 0#8 })).inv = true := by
          intro q hq
          have hk : (c - 257) / 8 < 8 := by omega
          obtain ⟨i1, i2, i3, i4, i5, i6, i7, i8, i9, i10, i11, i12⟩ := (Ppu.inv_iff q).1 hq
          unfold spriteFetchStep
          simp only
          split
          · exact State.inv_setPpu (s := s) h
              ((Ppu.inv_iff _).2 ⟨i1, i2, i3, i4, i5, i6, i7, i8, i9, Memory.wf_write i10 hk, i11, i12⟩)
          · exact State.inv_setPpu (s := s) h
              ((Ppu.inv_iff _).2 ⟨i1, i2, i3, i4, i5, i6, i7, i8, i9, i10, Memory.wf_write i11 hk, i12⟩)
          · exact State.inv_setPpu h hq
        refine h1 _ ?_
        split
        · obtain ⟨i1, i2, i3, i4, i5, i6, i7, i8, i9, i10⟩ := (Ppu.inv_iff s.ppu).1 hp
          exact (Ppu.inv_iff _).2 ⟨i1, i2, i3, i3, i5, i6, i7, i8, i8, i10⟩
        · exact hp
      · exact h

theorem backgroundStep_inv {l c : Nat} {s : State} (h : s.inv = true) : (backgroundStep l c s).inv = true := by
  rw [backgroundStep_eq]
  exact State.inv_setPpu h (s.inv_ppu h)

theorem renderWork_inv {l c : Nat} {s : State} (h : s.inv = true) : (renderWork l c s).inv = true := by
  unfold renderWork
  split
  · refine spriteStep_inv (backgroundStep_inv ?_)
    split
    · next hc => exact State.inv_setPpu h (outputPixel_inv (s.inv_ppu h) hc.1 hc.2.1 hc.2.2)
    · exact h
  · exact h

theorem flagEvents_inv {l c : Nat} {s : State} (h : s.inv = true) : (flagEvents l c s).inv = true := by
  unfold flagEvents
  split
  · have h1 : (s.setPpu { s.ppu with vblank := true }).inv = true := State.inv_setPpu h (s.inv_ppu h)
    unfold vblankStart
    simp only
    split
    · exact nmi_inv h1
    · exact h1
  · split
    · exact State.inv_setPpu h (s.inv_ppu h)
    · exact h

theorem advance_inv {p : Ppu} (h : p.inv = true) : (advance p).inv = true := by
  obtain ⟨i1, i2, i3⟩ := (Ppu.inv_iff p).1 h
  unfold advance
  split
  · exact (Ppu.inv_iff _).2 ⟨Nat.zero_le _, Nat.zero_le _, i3⟩
  · split
    · split
      · exact (Ppu.inv_iff _).2 ⟨Nat.zero_le _, Nat.zero_le _, i3⟩
      · exact (Ppu.inv_iff _).2 ⟨by simp only; omega, Nat.zero_le _, i3⟩
    · exact (Ppu.inv_iff _).2 ⟨i1, by simp only; omega, i3⟩

/-- A PPU pulse keeps the invariant. -/
theorem ppuPulse_inv {s : State} (h : s.inv = true) : (ppuPulse s).inv = true := by
  have h1 : (renderWork s.ppu.scanline s.ppu.cycle (flagEvents s.ppu.scanline s.ppu.cycle s)).inv = true :=
    renderWork_inv (flagEvents_inv h)
  refine State.inv_setPpu h1 (advance_inv ?_)
  rw [frameSwap_eq]
  exact State.inv_ppu h1

end Sys2Proof.Machine
end

