-- ==== Sys2Proof/Laws/PerInstr.lean ====
section
/-! SUPPORT. The family `Length`: the bytes of an instruction begin with a legal opcode byte, and there are as
many of them as the opcode byte alone tells (30_encoding.md R140). -/

namespace Sys2Proof.Laws

/-- The encoding of `i` is a legal opcode byte and the operand bytes that byte asks for. -/
def Length.Statement (i : Instr) : Prop :=
  ∃ opcode operand f, encode i = opcode :: operand ∧ legalOpcode opcode = true ∧ formOf opcode = some f ∧
    operand.length = f.operandBytes

theorem Length.ldaIzx (z : Byte) : Length.Statement (.ldaIzx z) := ⟨_, _, _, rfl, rfl, rfl, rfl⟩
theorem Length.ldaZp0 (z : Byte) : Length.Statement (.ldaZp0 z) := ⟨_, _, _, rfl, rfl, rfl, rfl⟩
theorem Length.ldaImm (d : Byte) : Length.Statement (.ldaImm d) := ⟨_, _, _, rfl, rfl, rfl, rfl⟩
theorem Length.ldaAbs (a : Addr) : Length.Statement (.ldaAbs a) := ⟨_, _, _, rfl, rfl, rfl, rfl⟩
theorem Length.ldaIzy (z : Byte) : Length.Statement (.ldaIzy z) := ⟨_, _, _, rfl, rfl, rfl, rfl⟩
theorem Length.ldaZpx (z : Byte) : Length.Statement (.ldaZpx z) := ⟨_, _, _, rfl, rfl, rfl, rfl⟩
theorem Length.ldaAby (a : Addr) : Length.Statement (.ldaAby a) := ⟨_, _, _, rfl, rfl, rfl, rfl⟩
theorem Length.ldaAbx (a : Addr) : Length.Statement (.ldaAbx a) := ⟨_, _, _, rfl, rfl, rfl, rfl⟩
theorem Length.ldxImm (d : Byte) : Length.Statement (.ldxImm d) := ⟨_, _, _, rfl, rfl, rfl, rfl⟩
theorem Length.ldxZp0 (z : Byte) : Length.Statement (.ldxZp0 z) := ⟨_, _, _, rfl, rfl, rfl, rfl⟩
theorem Length.ldxAbs (a : Addr) : Length.Statement (.ldxAbs a) := ⟨_, _, _, rfl, rfl, rfl, rfl⟩
theorem Length.ldxZpy (z : Byte) : Length.Statement (.ldxZpy z) := ⟨_, _, _, rfl, rfl, rfl, rfl⟩
theorem Length.ldxAby (a : Addr) : Length.Statement (.ldxAby a) := ⟨_, _, _, rfl, rfl, rfl, rfl⟩
theorem Length.ldyImm (d : Byte) : Length.Statement (.ldyImm d) := ⟨_, _, _, rfl, rfl, rfl, rfl⟩
theorem Length.ldyZp0 (z : Byte) : Length.Statement (.ldyZp0 z) := ⟨_, _, _, rfl, rfl, rfl, rfl⟩
theorem Length.ldyAbs (a : Addr) : Length.Statement (.ldyAbs a) := ⟨_, _, _, rfl, rfl, rfl, rfl⟩
theorem Length.ldyZpx (z : Byte) : Length.Statement (.ldyZpx z) := ⟨_, _, _, rfl, rfl, rfl, rfl⟩
theorem Length.ldyAbx (a : Addr) : Length.Statement (.ldyAbx a) := ⟨_, _, _, rfl, rfl, rfl, rfl⟩
theorem Length.staIzx (z : Byte) : Length.Statement (.staIzx z) := ⟨_, _, _, rfl, rfl, rfl, rfl⟩
theorem Length.staZp0 (z : Byte) : Length.Statement (.staZp0 z) := ⟨_, _, _, rfl, rfl, rfl, rfl⟩
theorem Length.staAbs (a : Addr) : Length.Statement (.staAbs a) := ⟨_, _, _, rfl, rfl, rfl, rfl⟩
theorem Length.staIzy (z : Byte) : Length.Statement (.staIzy z) := ⟨_, _, _, rfl, rfl, rfl, rfl⟩
theorem Length.staZpx (z : Byte) : Length.Statement (.staZpx z) := ⟨_, _, _, rfl, rfl, rfl, rfl⟩
theorem Length.staAby (a : Addr) : Length.Statement (.staAby a) := ⟨_, _, _, rfl, rfl, rfl, rfl⟩
theorem Length.staAbx (a : Addr) : Length.Statement (.staAbx a) := ⟨_, _, _, rfl, rfl, rfl, rfl⟩
theorem Length.stxZp0 (z : Byte) : Length.Statement (.stxZp0 z) := ⟨_, _, _, rfl, rfl, rfl, rfl⟩
theorem Length.stxAbs (a : Addr) : Length.Statement (.stxAbs a) := ⟨_, _, _, rfl, rfl, rfl, rfl⟩
theorem Length.stxZpy (z : Byte) : Length.Statement (.stxZpy z) := ⟨_, _, _, rfl, rfl, rfl, rfl⟩
theorem Length.styZp0 (z : Byte) : Length.Statement (.styZp0 z) := ⟨_, _, _, rfl, rfl, rfl, rfl⟩
theorem Length.styAbs (a : Addr) : Length.Statement (.styAbs a) := ⟨_, _, _, rfl, rfl, rfl, rfl⟩
theorem Length.styZpx (z : Byte) : Length.Statement (.styZpx z) := ⟨_, _, _, rfl, rfl, rfl, rfl⟩
theorem Length.tax : Length.Statement .tax := ⟨_, _, _, rfl, rfl, rfl, rfl⟩
theorem Length.tay : Length.Statement .tay := ⟨_, _, _, rfl, rfl, rfl, rfl⟩
theorem Length.txa : Length.Statement .txa := ⟨_, _, _, rfl, rfl, rfl, rfl⟩
theorem Length.tya : Length.Statement .tya := ⟨_, _, _, rfl, rfl, rfl, rfl⟩
theorem Length.tsx : Length.Statement .tsx := ⟨_, _, _, rfl, rfl, rfl, rfl⟩
theorem Length.txs : Length.Statement .txs := ⟨_, _, _, rfl, rfl, rfl, rfl⟩
theorem Length.adcIzx (z : Byte) : Length.Statement (.adcIzx z) := ⟨_, _, _, rfl, rfl, rfl, rfl⟩
theorem Length.adcZp0 (z : Byte) : Length.Statement (.adcZp0 z) := ⟨_, _, _, rfl, rfl, rfl, rfl⟩
theorem Length.adcImm (d : Byte) : Length.Statement (.adcImm d) := ⟨_, _, _, rfl, rfl, rfl, rfl⟩
theorem Length.adcAbs (a : Addr) : Length.Statement (.adcAbs a) := ⟨_, _, _, rfl, rfl, rfl, rfl⟩
theorem Length.adcIzy (z : Byte) : Length.Statement (.adcIzy z) := ⟨_, _, _, rfl, rfl, rfl, rfl⟩
theorem Length.adcZpx (z : Byte) : Length.Statement (.adcZpx z) := ⟨_, _, _, rfl, rfl, rfl, rfl⟩
theorem Length.adcAby (a : Addr) : Length.Statement (.adcAby a) := ⟨_, _, _, rfl, rfl, rfl, rfl⟩
theorem Length.adcAbx (a : Addr) : Length.Statement (.adcAbx a) := ⟨_, _, _, rfl, rfl, rfl, rfl⟩
theorem Length.sbcIzx (z : Byte) : Length.Statement (.sbcIzx z) := ⟨_, _, _, rfl, rfl, rfl, rfl⟩
theorem Length.sbcZp0 (z : Byte) : Length.Statement (.sbcZp0 z) := ⟨_, _, _, rfl, rfl, rfl, rfl⟩
theorem Length.sbcImm (d : Byte) : Length.Statement (.sbcImm d) := ⟨_, _, _, rfl, rfl, rfl, rfl⟩
theorem Length.sbcAbs (a : Addr) : Length.Statement (.sbcAbs a) := ⟨_, _, _, rfl, rfl, rfl, rfl⟩
theorem Length.sbcIzy (z : Byte) : Length.Statement (.sbcIzy z) := ⟨_, _, _, rfl, rfl, rfl, rfl⟩
theorem Length.sbcZpx (z : Byte) : Length.Statement (.sbcZpx z) := ⟨_, _, _, rfl, rfl, rfl, rfl⟩
theorem Length.sbcAby (a : Addr) : Length.Statement (.sbcAby a) := ⟨_, _, _, rfl, rfl, rfl, rfl⟩
theorem Length.sbcAbx (a : Addr) : Length.Statement (.sbcAbx a) := ⟨_, _, _, rfl, rfl, rfl, rfl⟩
theorem Length.andIzx (z : Byte) : Length.Statement (.andIzx z) := ⟨_, _, _, rfl, rfl, rfl, rfl⟩
theorem Length.andZp0 (z : Byte) : Length.Statement (.andZp0 z) := ⟨_, _, _, rfl, rfl, rfl, rfl⟩
theorem Length.andImm (d : Byte) : Length.Statement (.andImm d) := ⟨_, _, _, rfl, rfl, rfl, rfl⟩
theorem Length.andAbs (a : Addr) : Length.Statement (.andAbs a) := ⟨_, _, _, rfl, rfl, rfl, rfl⟩
theorem Length.andIzy (z : Byte) : Length.Statement (.andIzy z) := ⟨_, _, _, rfl, rfl, rfl, rfl⟩
theorem Length.andZpx (z : Byte) : Length.Statement (.andZpx z) := ⟨_, _, _, rfl, rfl, rfl, rfl⟩
theorem Length.andAby (a : Addr) : Length.Statement (.andAby a) := ⟨_, _, _, rfl, rfl, rfl, rfl⟩
theorem Length.andAbx (a : Addr) : Length.Statement (.andAbx a) := ⟨_, _, _, rfl, rfl, rfl, rfl⟩
theorem Length.oraIzx (z : Byte) : Length.Statement (.oraIzx z) := ⟨_, _, _, rfl, rfl, rfl, rfl⟩
theorem Length.oraZp0 (z : Byte) : Length.Statement (.oraZp0 z) := ⟨_, _, _, rfl, rfl, rfl, rfl⟩
theorem Length.oraImm (d : Byte) : Length.Statement (.oraImm d) := ⟨_, _, _, rfl, rfl, rfl, rfl⟩
theorem Length.oraAbs (a : Addr) : Length.Statement (.oraAbs a) := ⟨_, _, _, rfl, rfl, rfl, rfl⟩
theorem Length.oraIzy (z : Byte) : Length.Statement (.oraIzy z) := ⟨_, _, _, rfl, rfl, rfl, rfl⟩
theorem Length.oraZpx (z : Byte) : Length.Statement (.oraZpx z) := ⟨_, _, _, rfl, rfl, rfl, rfl⟩
theorem Length.oraAby (a : Addr) : Length.Statement (.oraAby a) := ⟨_, _, _, rfl, rfl, rfl, rfl⟩
theorem Length.oraAbx (a : Addr) : Length.Statement (.oraAbx a) := ⟨_, _, _, rfl, rfl, rfl, rfl⟩
theorem Length.eorIzx (z : Byte) : Length.Statement (.eorIzx z) := ⟨_, _, _, rfl, rfl, rfl, rfl⟩
theorem Length.eorZp0 (z : Byte) : Length.Statement (.eorZp0 z) := ⟨_, _, _, rfl, rfl, rfl, rfl⟩
theorem Length.eorImm (d : Byte) : Length.Statement (.eorImm d) := ⟨_, _, _, rfl, rfl, rfl, rfl⟩
theorem Length.eorAbs (a : Addr) : Length.Statement (.eorAbs a) := ⟨_, _, _, rfl, rfl, rfl, rfl⟩
theorem Length.eorIzy (z : Byte) : Length.Statement (.eorIzy z) := ⟨_, _, _, rfl, rfl, rfl, rfl⟩
theorem Length.eorZpx (z : Byte) : Length.Statement (.eorZpx z) := ⟨_, _, _, rfl, rfl, rfl, rfl⟩
theorem Length.eorAby (a : Addr) : Length.Statement (.eorAby a) := ⟨_, _, _, rfl, rfl, rfl, rfl⟩
theorem Length.eorAbx (a : Addr) : Length.Statement (.eorAbx a) := ⟨_, _, _, rfl, rfl, rfl, rfl⟩
theorem Length.cmpIzx (z : Byte) : Length.Statement (.cmpIzx z) := ⟨_, _, _, rfl, rfl, rfl, rfl⟩
theorem Length.cmpZp0 (z : Byte) : Length.Statement (.cmpZp0 z) := ⟨_, _, _, rfl, rfl, rfl, rfl⟩
theorem Length.cmpImm (d : Byte) : Length.Statement (.cmpImm d) := ⟨_, _, _, rfl, rfl, rfl, rfl⟩
theorem Length.cmpAbs (a : Addr) : Length.Statement (.cmpAbs a) := ⟨_, _, _, rfl, rfl, rfl, rfl⟩
theorem Length.cmpIzy (z : Byte) : Length.Statement (.cmpIzy z) := ⟨_, _, _, rfl, rfl, rfl, rfl⟩
theorem Length.cmpZpx (z : Byte) : Length.Statement (.cmpZpx z) := ⟨_, _, _, rfl, rfl, rfl, rfl⟩
theorem Length.cmpAby (a : Addr) : Length.Statement (.cmpAby a) := ⟨_, _, _, rfl, rfl, rfl, rfl⟩
theorem Length.cmpAbx (a : Addr) : Length.Statement (.cmpAbx a) := ⟨_, _, _, rfl, rfl, rfl, rfl⟩
theorem Length.cpxImm (d : Byte) : Length.Statement (.cpxImm d) := ⟨_, _, _, rfl, rfl, rfl, rfl⟩
theorem Length.cpxZp0 (z : Byte) : Length.Statement (.cpxZp0 z) := ⟨_, _, _, rfl, rfl, rfl, rfl⟩
theorem Length.cpxAbs (a : Addr) : Length.Statement (.cpxAbs a) := ⟨_, _, _, rfl, rfl, rfl, rfl⟩
theorem Length.cpyImm (d : Byte) : Length.Statement (.cpyImm d) := ⟨_, _, _, rfl, rfl, rfl, rfl⟩
theorem Length.cpyZp0 (z : Byte) : Length.Statement (.cpyZp0 z) := ⟨_, _, _, rfl, rfl, rfl, rfl⟩
theorem Length.cpyAbs (a : Addr) : Length.Statement (.cpyAbs a) := ⟨_, _, _, rfl, rfl, rfl, rfl⟩
theorem Length.bitZp0 (z : Byte) : Length.Statement (.bitZp0 z) := ⟨_, _, _, rfl, rfl, rfl, rfl⟩
theorem Length.bitAbs (a : Addr) : Length.Statement (.bitAbs a) := ⟨_, _, _, rfl, rfl, rfl, rfl⟩
theorem Length.incZp0 (z : Byte) : Length.Statement (.incZp0 z) := ⟨_, _, _, rfl, rfl, rfl, rfl⟩
theorem Length.incAbs (a : Addr) : Length.Statement (.incAbs a) := ⟨_, _, _, rfl, rfl, rfl, rfl⟩
theorem Length.incZpx (z : Byte) : Length.Statement (.incZpx z) := ⟨_, _, _, rfl, rfl, rfl, rfl⟩
theorem Length.incAbx (a : Addr) : Length.Statement (.incAbx a) := ⟨_, _, _, rfl, rfl, rfl, rfl⟩
theorem Length.decZp0 (z : Byte) : Length.Statement (.decZp0 z) := ⟨_, _, _, rfl, rfl, rfl, rfl⟩
theorem Length.decAbs (a : Addr) : Length.Statement (.decAbs a) := ⟨_, _, _, rfl, rfl, rfl, rfl⟩
theorem Length.decZpx (z : Byte) : Length.Statement (.decZpx z) := ⟨_, _, _, rfl, rfl, rfl, rfl⟩
theorem Length.decAbx (a : Addr) : Length.Statement (.decAbx a) := ⟨_, _, _, rfl, rfl, rfl, rfl⟩
theorem Length.inx : Length.Statement .inx := ⟨_, _, _, rfl, rfl, rfl, rfl⟩
theorem Length.iny : Length.Statement .iny := ⟨_, _, _, rfl, rfl, rfl, rfl⟩
theorem Length.dex : Length.Statement .dex := ⟨_, _, _, rfl, rfl, rfl, rfl⟩
theorem Length.dey : Length.Statement .dey := ⟨_, _, _, rfl, rfl, rfl, rfl⟩
theorem Length.aslZp0 (z : Byte) : Length.Statement (.aslZp0 z) := ⟨_, _, _, rfl, rfl, rfl, rfl⟩
theorem Length.aslAcc : Length.Statement .aslAcc := ⟨_, _, _, rfl, rfl, rfl, rfl⟩
theorem Length.aslAbs (a : Addr) : Length.Statement (.aslAbs a) := ⟨_, _, _, rfl, rfl, rfl, rfl⟩
theorem Length.aslZpx (z : Byte) : Length.Statement (.aslZpx z) := ⟨_, _, _, rfl, rfl, rfl, rfl⟩
theorem Length.aslAbx (a : Addr) : Length.Statement (.aslAbx a) := ⟨_, _, _, rfl, rfl, rfl, rfl⟩
theorem Length.lsrZp0 (z : Byte) : Length.Statement (.lsrZp0 z) := ⟨_, _, _, rfl, rfl, rfl, rfl⟩
theorem Length.lsrAcc : Length.Statement .lsrAcc := ⟨_, _, _, rfl, rfl, rfl, rfl⟩
theorem Length.lsrAbs (a : Addr) : Length.Statement (.lsrAbs a) := ⟨_, _, _, rfl, rfl, rfl, rfl⟩
theorem Length.lsrZpx (z : Byte) : Length.Statement (.lsrZpx z) := ⟨_, _, _, rfl, rfl, rfl, rfl⟩
theorem Length.lsrAbx (a : Addr) : Length.Statement (.lsrAbx a) := ⟨_, _, _, rfl, rfl, rfl, rfl⟩
theorem Length.rolZp0 (z : Byte) : Length.Statement (.rolZp0 z) := ⟨_, _, _, rfl, rfl, rfl, rfl⟩
theorem Length.rolAcc : Length.Statement .rolAcc := ⟨_, _, _, rfl, rfl, rfl, rfl⟩
theorem Length.rolAbs (a : Addr) : Length.Statement (.rolAbs a) := ⟨_, _, _, rfl, rfl, rfl, rfl⟩
theorem Length.rolZpx (z : Byte) : Length.Statement (.rolZpx z) := ⟨_, _, _, rfl, rfl, rfl, rfl⟩
theorem Length.rolAbx (a : Addr) : Length.Statement (.rolAbx a) := ⟨_, _, _, rfl, rfl, rfl, rfl⟩
theorem Length.rorZp0 (z : Byte) : Length.Statement (.rorZp0 z) := ⟨_, _, _, rfl, rfl, rfl, rfl⟩
theorem Length.rorAcc : Length.Statement .rorAcc := ⟨_, _, _, rfl, rfl, rfl, rfl⟩
theorem Length.rorAbs (a : Addr) : Length.Statement (.rorAbs a) := ⟨_, _, _, rfl, rfl, rfl, rfl⟩
theorem Length.rorZpx (z : Byte) : Length.Statement (.rorZpx z) := ⟨_, _, _, rfl, rfl, rfl, rfl⟩
theorem Length.rorAbx (a : Addr) : Length.Statement (.rorAbx a) := ⟨_, _, _, rfl, rfl, rfl, rfl⟩
theorem Length.jmpAbs (a : Addr) : Length.Statement (.jmpAbs a) := ⟨_, _, _, rfl, rfl, rfl, rfl⟩
theorem Length.jmpInd (a : Addr) : Length.Statement (.jmpInd a) := ⟨_, _, _, rfl, rfl, rfl, rfl⟩
theorem Length.jsr (a : Addr) : Length.Statement (.jsr a) := ⟨_, _, _, rfl, rfl, rfl, rfl⟩
theorem Length.rts : Length.Statement .rts := ⟨_, _, _, rfl, rfl, rfl, rfl⟩
theorem Length.rti : Length.Statement .rti := ⟨_, _, _, rfl, rfl, rfl, rfl⟩
theorem Length.brk : Length.Statement .brk := ⟨_, _, _, rfl, rfl, rfl, rfl⟩
theorem Length.bcc (r : Byte) : Length.Statement (.bcc r) := ⟨_, _, _, rfl, rfl, rfl, rfl⟩
theorem Length.bcs (r : Byte) : Length.Statement (.bcs r) := ⟨_, _, _, rfl, rfl, rfl, rfl⟩
theorem Length.beq (r : Byte) : Length.Statement (.beq r) := ⟨_, _, _, rfl, rfl, rfl, rfl⟩
theorem Length.bne (r : Byte) : Length.Statement (.bne r) := ⟨_, _, _, rfl, rfl, rfl, rfl⟩
theorem Length.bmi (r : Byte) : Length.Statement (.bmi r) := ⟨_, _, _, rfl, rfl, rfl, rfl⟩
theorem Length.bpl (r : Byte) : Length.Statement (.bpl r) := ⟨_, _, _, rfl, rfl, rfl, rfl⟩
theorem Length.bvc (r : Byte) : Length.Statement (.bvc r) := ⟨_, _, _, rfl, rfl, rfl, rfl⟩
theorem Length.bvs (r : Byte) : Length.Statement (.bvs r) := ⟨_, _, _, rfl, rfl, rfl, rfl⟩
theorem Length.pha : Length.Statement .pha := ⟨_, _, _, rfl, rfl, rfl, rfl⟩
theorem Length.pla : Length.Statement .pla := ⟨_, _, _, rfl, rfl, rfl, rfl⟩
theorem Length.php : Length.Statement .php := ⟨_, _, _, rfl, rfl, rfl, rfl⟩
theorem Length.plp : Length.Statement .plp := ⟨_, _, _, rfl, rfl, rfl, rfl⟩
theorem Length.clc : Length.Statement .clc := ⟨_, _, _, rfl, rfl, rfl, rfl⟩
theorem Length.sec : Length.Statement .sec := ⟨_, _, _, rfl, rfl, rfl, rfl⟩
theorem Length.cli : Length.Statement .cli := ⟨_, _, _, rfl, rfl, rfl, rfl⟩
theorem Length.sei : Length.Statement .sei := ⟨_, _, _, rfl, rfl, rfl, rfl⟩
theorem Length.clv : Length.Statement .clv := ⟨_, _, _, rfl, rfl, rfl, rfl⟩
theorem Length.cld : Length.Statement .cld := ⟨_, _, _, rfl, rfl, rfl, rfl⟩
theorem Length.sed : Length.Statement .sed := ⟨_, _, _, rfl, rfl, rfl, rfl⟩
theorem Length.nop : Length.Statement .nop := ⟨_, _, _, rfl, rfl, rfl, rfl⟩

end Sys2Proof.Laws
end

