-- ==== Sys2Proof/Tests/Slice0.lean ====
section
/-! SUPPORT. The author's own tests. Expected values come from the spec's tables, rules and derived vectors
(95_test_vectors.md, named where they are not the rule's own example); each test is one step or one access on a small
state. At the end, one witness for each obligation with hypotheses: a concrete input that meets all of them, at
boundary values of each clause. -/

namespace Sys2Proof.Tests

open Sys2Proof.Machine

/-! ### Small states -/

/-- The machine between instructions with the given registers and work RAM, `PC` at $8000. -/
def ready (a x y s p : Byte) (ram : Memory) : State :=
  { State.reset with
    cpu := { State.reset.cpu with a := a, x := x, y := y, s := s, p := p, pc := 0x8000#16, cyc := 0 }
    ram := ram }

/-- `PC` moved. -/
def fromPc (pc : Addr) (s : State) : State := s.setPc pc

/-- The IRQ vector set. -/
def irqTo (a : Addr) (s : State) : State := placeBytes (leBytes a) 0xFFFE#16 s

/-- The NMI vector set. -/
def nmiTo (a : Addr) (s : State) : State := placeBytes (leBytes a) 0xFFFA#16 s

/-- The reset state with the PPU changed. -/
def withPpu (f : Ppu → Ppu) : State := State.reset.setPpu (f State.reset.ppu)

/-- The PPU at a grid point with a mask value. -/
def gridPoint (l c : Nat) (mask : Byte) : State :=
  withPpu fun p => { p with scanline := l, cycle := c, mask := mask }

/-- `A`, `X`, `Y`, `S`, `P`, `PC` and the pulses of the instruction `bytes` placed at `PC`, with the work RAM it leaves. -/
def seen (bytes : List Byte) (s : State) : Option (List Nat × Memory) :=
  match cpuPulse (placeBytes bytes s.cpu.pc s) with
  | .next t =>
    some ([t.cpu.a.toNat, t.cpu.x.toNat, t.cpu.y.toNat, t.cpu.s.toNat, t.cpu.p.toNat, t.cpu.pc.toNat, t.cpu.cyc + 1],
      t.ram)
  | .fault _ => none
  | .refused _ => none

/-- The outcome is a next state of which `P` holds. -/
def nextAnd (r : Result) (P : State → Bool) : Bool :=
  match r with
  | .next t => P t
  | .fault _ => false
  | .refused _ => false

/-- Each byte string decodes to the instruction beside it, whole. -/
def decodesAll (l : List (List Byte × Instr)) : Bool :=
  l.all fun e => match decode e.1 with
    | .ok (i, rest) => decide (i = e.2) && rest.isEmpty
    | .error _ => false

/-- The bytes are refused. -/
def refusedBytes (bs : List Byte) : Bool :=
  match decode bs with
  | .ok _ => false
  | .error _ => true

/-! ### Well-formedness: an ill-formed term for each check -/

theorem test_wf_refuses_no_bytes : wfBytes [] = false := by decide

theorem test_wf_refuses_illegal_opcode : wfBytes [0x02#8] = false := by decide

theorem test_wf_refuses_too_long : wfBytes [0xAD#8, 0x00#8, 0x20#8, 0x00#8] = false := by decide

theorem test_wf_takes_each_length :
    (wfBytes [0xEA#8] && wfBytes [0xA9#8, 0xFF#8] && wfBytes [0xAD#8, 0x00#8, 0x20#8]) = true := by decide

/-! ### Decoding (30_encoding.md R145, R150): every row of the opcode table, its word written from the spec -/

theorem test_decode_loads_stores_and_transfers_1 :
    decodesAll
     [([0xA1#8, 0x9A#8], .ldaIzx 0x9A#8), ([0xA5#8, 0x9A#8], .ldaZp0 0x9A#8), ([0xA9#8, 0x9A#8], .ldaImm 0x9A#8),
      ([0xAD#8, 0x34#8, 0x12#8], .ldaAbs 0x1234#16), ([0xB1#8, 0x9A#8], .ldaIzy 0x9A#8),
      ([0xB5#8, 0x9A#8], .ldaZpx 0x9A#8), ([0xB9#8, 0x34#8, 0x12#8], .ldaAby 0x1234#16),
      ([0xBD#8, 0x34#8, 0x12#8], .ldaAbx 0x1234#16), ([0xA2#8, 0x9A#8], .ldxImm 0x9A#8),
      ([0xA6#8, 0x9A#8], .ldxZp0 0x9A#8), ([0xAE#8, 0x34#8, 0x12#8], .ldxAbs 0x1234#16),
      ([0xB6#8, 0x9A#8], .ldxZpy 0x9A#8), ([0xBE#8, 0x34#8, 0x12#8], .ldxAby 0x1234#16),
      ([0xA0#8, 0x9A#8], .ldyImm 0x9A#8), ([0xA4#8, 0x9A#8], .ldyZp0 0x9A#8),
      ([0xAC#8, 0x34#8, 0x12#8], .ldyAbs 0x1234#16), ([0xB4#8, 0x9A#8], .ldyZpx 0x9A#8),
      ([0xBC#8, 0x34#8, 0x12#8], .ldyAbx 0x1234#16), ([0x81#8, 0x9A#8], .staIzx 0x9A#8),
      ([0x85#8, 0x9A#8], .staZp0 0x9A#8), ([0x8D#8, 0x34#8, 0x12#8], .staAbs 0x1234#16),
      ([0x91#8, 0x9A#8], .staIzy 0x9A#8), ([0x95#8, 0x9A#8], .staZpx 0x9A#8),
      ([0x99#8, 0x34#8, 0x12#8], .staAby 0x1234#16), ([0x9D#8, 0x34#8, 0x12#8], .staAbx 0x1234#16),
      ([0x86#8, 0x9A#8], .stxZp0 0x9A#8), ([0x8E#8, 0x34#8, 0x12#8], .stxAbs 0x1234#16)] = true := by decide

theorem test_decode_loads_stores_and_transfers_2 :
    decodesAll
     [([0x96#8, 0x9A#8], .stxZpy 0x9A#8), ([0x84#8, 0x9A#8], .styZp0 0x9A#8),
      ([0x8C#8, 0x34#8, 0x12#8], .styAbs 0x1234#16), ([0x94#8, 0x9A#8], .styZpx 0x9A#8), ([0xAA#8], .tax),
      ([0xA8#8], .tay), ([0x8A#8], .txa), ([0x98#8], .tya), ([0xBA#8], .tsx), ([0x9A#8], .txs)] = true := by decide

theorem test_decode_arithmetic_1 :
    decodesAll
     [([0x61#8, 0x9A#8], .adcIzx 0x9A#8), ([0x65#8, 0x9A#8], .adcZp0 0x9A#8), ([0x69#8, 0x9A#8], .adcImm 0x9A#8),
      ([0x6D#8, 0x34#8, 0x12#8], .adcAbs 0x1234#16), ([0x71#8, 0x9A#8], .adcIzy 0x9A#8),
      ([0x75#8, 0x9A#8], .adcZpx 0x9A#8), ([0x79#8, 0x34#8, 0x12#8], .adcAby 0x1234#16),
      ([0x7D#8, 0x34#8, 0x12#8], .adcAbx 0x1234#16), ([0xE1#8, 0x9A#8], .sbcIzx 0x9A#8),
      ([0xE5#8, 0x9A#8], .sbcZp0 0x9A#8), ([0xE9#8, 0x9A#8], .sbcImm 0x9A#8),
      ([0xED#8, 0x34#8, 0x12#8], .sbcAbs 0x1234#16), ([0xF1#8, 0x9A#8], .sbcIzy 0x9A#8),
      ([0xF5#8, 0x9A#8], .sbcZpx 0x9A#8), ([0xF9#8, 0x34#8, 0x12#8], .sbcAby 0x1234#16),
      ([0xFD#8, 0x34#8, 0x12#8], .sbcAbx 0x1234#16), ([0xC1#8, 0x9A#8], .cmpIzx 0x9A#8),
      ([0xC5#8, 0x9A#8], .cmpZp0 0x9A#8), ([0xC9#8, 0x9A#8], .cmpImm 0x9A#8),
      ([0xCD#8, 0x34#8, 0x12#8], .cmpAbs 0x1234#16), ([0xD1#8, 0x9A#8], .cmpIzy 0x9A#8),
      ([0xD5#8, 0x9A#8], .cmpZpx 0x9A#8), ([0xD9#8, 0x34#8, 0x12#8], .cmpAby 0x1234#16),
      ([0xDD#8, 0x34#8, 0x12#8], .cmpAbx 0x1234#16), ([0xE0#8, 0x9A#8], .cpxImm 0x9A#8),
      ([0xE4#8, 0x9A#8], .cpxZp0 0x9A#8), ([0xEC#8, 0x34#8, 0x12#8], .cpxAbs 0x1234#16)] = true := by decide

theorem test_decode_arithmetic_2 :
    decodesAll
     [([0xC0#8, 0x9A#8], .cpyImm 0x9A#8), ([0xC4#8, 0x9A#8], .cpyZp0 0x9A#8),
      ([0xCC#8, 0x34#8, 0x12#8], .cpyAbs 0x1234#16), ([0x24#8, 0x9A#8], .bitZp0 0x9A#8),
      ([0x2C#8, 0x34#8, 0x12#8], .bitAbs 0x1234#16)] = true := by decide

theorem test_decode_logic_and_counting_1 :
    decodesAll
     [([0x21#8, 0x9A#8], .andIzx 0x9A#8), ([0x25#8, 0x9A#8], .andZp0 0x9A#8), ([0x29#8, 0x9A#8], .andImm 0x9A#8),
      ([0x2D#8, 0x34#8, 0x12#8], .andAbs 0x1234#16), ([0x31#8, 0x9A#8], .andIzy 0x9A#8),
      ([0x35#8, 0x9A#8], .andZpx 0x9A#8), ([0x39#8, 0x34#8, 0x12#8], .andAby 0x1234#16),
      ([0x3D#8, 0x34#8, 0x12#8], .andAbx 0x1234#16), ([0x01#8, 0x9A#8], .oraIzx 0x9A#8),
      ([0x05#8, 0x9A#8], .oraZp0 0x9A#8), ([0x09#8, 0x9A#8], .oraImm 0x9A#8),
      ([0x0D#8, 0x34#8, 0x12#8], .oraAbs 0x1234#16), ([0x11#8, 0x9A#8], .oraIzy 0x9A#8),
      ([0x15#8, 0x9A#8], .oraZpx 0x9A#8), ([0x19#8, 0x34#8, 0x12#8], .oraAby 0x1234#16),
      ([0x1D#8, 0x34#8, 0x12#8], .oraAbx 0x1234#16), ([0x41#8, 0x9A#8], .eorIzx 0x9A#8),
      ([0x45#8, 0x9A#8], .eorZp0 0x9A#8), ([0x49#8, 0x9A#8], .eorImm 0x9A#8),
      ([0x4D#8, 0x34#8, 0x12#8], .eorAbs 0x1234#16), ([0x51#8, 0x9A#8], .eorIzy 0x9A#8),
      ([0x55#8, 0x9A#8], .eorZpx 0x9A#8), ([0x59#8, 0x34#8, 0x12#8], .eorAby 0x1234#16),
      ([0x5D#8, 0x34#8, 0x12#8], .eorAbx 0x1234#16), ([0xE6#8, 0x9A#8], .incZp0 0x9A#8),
      ([0xEE#8, 0x34#8, 0x12#8], .incAbs 0x1234#16), ([0xF6#8, 0x9A#8], .incZpx 0x9A#8)] = true := by decide

theorem test_decode_logic_and_counting_2 :
    decodesAll
     [([0xFE#8, 0x34#8, 0x12#8], .incAbx 0x1234#16), ([0xC6#8, 0x9A#8], .decZp0 0x9A#8),
      ([0xCE#8, 0x34#8, 0x12#8], .decAbs 0x1234#16), ([0xD6#8, 0x9A#8], .decZpx 0x9A#8),
      ([0xDE#8, 0x34#8, 0x12#8], .decAbx 0x1234#16), ([0xE8#8], .inx), ([0xC8#8], .iny), ([0xCA#8], .dex),
      ([0x88#8], .dey)] = true := by decide

theorem test_decode_shifts :
    decodesAll
     [([0x06#8, 0x9A#8], .aslZp0 0x9A#8), ([0x0A#8], .aslAcc), ([0x0E#8, 0x34#8, 0x12#8], .aslAbs 0x1234#16),
      ([0x16#8, 0x9A#8], .aslZpx 0x9A#8), ([0x1E#8, 0x34#8, 0x12#8], .aslAbx 0x1234#16),
      ([0x46#8, 0x9A#8], .lsrZp0 0x9A#8), ([0x4A#8], .lsrAcc), ([0x4E#8, 0x34#8, 0x12#8], .lsrAbs 0x1234#16),
      ([0x56#8, 0x9A#8], .lsrZpx 0x9A#8), ([0x5E#8, 0x34#8, 0x12#8], .lsrAbx 0x1234#16),
      ([0x26#8, 0x9A#8], .rolZp0 0x9A#8), ([0x2A#8], .rolAcc), ([0x2E#8, 0x34#8, 0x12#8], .rolAbs 0x1234#16),
      ([0x36#8, 0x9A#8], .rolZpx 0x9A#8), ([0x3E#8, 0x34#8, 0x12#8], .rolAbx 0x1234#16),
      ([0x66#8, 0x9A#8], .rorZp0 0x9A#8), ([0x6A#8], .rorAcc), ([0x6E#8, 0x34#8, 0x12#8], .rorAbs 0x1234#16),
      ([0x76#8, 0x9A#8], .rorZpx 0x9A#8), ([0x7E#8, 0x34#8, 0x12#8], .rorAbx 0x1234#16)] = true := by decide

theorem test_decode_control :
    decodesAll
     [([0x4C#8, 0x34#8, 0x12#8], .jmpAbs 0x1234#16), ([0x6C#8, 0x34#8, 0x12#8], .jmpInd 0x1234#16),
      ([0x20#8, 0x34#8, 0x12#8], .jsr 0x1234#16), ([0x60#8], .rts), ([0x40#8], .rti), ([0x00#8], .brk),
      ([0x90#8, 0x9A#8], .bcc 0x9A#8), ([0xB0#8, 0x9A#8], .bcs 0x9A#8), ([0xF0#8, 0x9A#8], .beq 0x9A#8),
      ([0xD0#8, 0x9A#8], .bne 0x9A#8), ([0x30#8, 0x9A#8], .bmi 0x9A#8), ([0x10#8, 0x9A#8], .bpl 0x9A#8),
      ([0x50#8, 0x9A#8], .bvc 0x9A#8), ([0x70#8, 0x9A#8], .bvs 0x9A#8)] = true := by decide

theorem test_decode_stack_and_flags :
    decodesAll
     [([0x48#8], .pha), ([0x68#8], .pla), ([0x08#8], .php), ([0x28#8], .plp), ([0x18#8], .clc), ([0x38#8], .sec),
      ([0x58#8], .cli), ([0x78#8], .sei), ([0xB8#8], .clv), ([0xD8#8], .cld), ([0xF8#8], .sed), ([0xEA#8], .nop)] = true := by decide

/-! ### The instructions (95_test_vectors.md part 2): registers, flags, `PC`, pulses and RAM after one pulse -/

theorem test_lda_ff_x_wraps_inside_page_0 :
    seen [0xB5#8, 0xFF#8] (ready 0#8 2#8 0#8 0xFD#8 0x24#8 [(0x0001, 0x33#8), (0x0101, 0x44#8)]) =
      some ([0x33, 0x02, 0x00, 0xFD, 0x24, 0x8002, 4], [(0x0001, 0x33#8), (0x0101, 0x44#8)]) := by decide

theorem test_lda_ff_y_pointer_bytes_at_ff_and_00 :
    seen [0xB1#8, 0xFF#8] (ready 0#8 0#8 0#8 0xFD#8 0x24#8 [(0x0000, 3#8), (0x00FF, 0x40#8), (0x0340, 1#8)]) =
      some ([0x01, 0x00, 0x00, 0xFD, 0x24, 0x8002, 5], [(0x0000, 3#8), (0x00FF, 0x40#8), (0x0340, 1#8)]) := by decide

theorem test_ldx_f0_y_wraps_inside_page_0 :
    seen [0xB6#8, 0xF0#8] (ready 0#8 0#8 0x20#8 0xFD#8 0x24#8 [(0x0010, 0xFE#8)]) =
      some ([0x00, 0xFE, 0x20, 0xFD, 0xA4, 0x8002, 4], [(0x0010, 0xFE#8)]) := by decide

theorem test_ldx_02ff_y_cross_zero :
    seen [0xBE#8, 0xFF#8, 2#8] (ready 0#8 0#8 2#8 0xFD#8 0x24#8 []) =
      some ([0x00, 0x00, 0x02, 0xFD, 0x26, 0x8003, 5], []) := by decide

theorem test_ldy_02f0_x_cross :
    seen [0xBC#8, 0xF0#8, 2#8] (ready 0#8 0x10#8 0#8 0xFD#8 0x24#8 [(0x0300, 0x80#8)]) =
      some ([0x00, 0x10, 0x80, 0xFD, 0xA4, 0x8003, 5], [(0x0300, 0x80#8)]) := by decide

theorem test_sta_02f0_x_cross_no_extra_pulse :
    seen [0x9D#8, 0xF0#8, 2#8] (ready 0xAB#8 0x20#8 0#8 0xFD#8 0x24#8 []) =
      some ([0xAB, 0x20, 0x00, 0xFD, 0x24, 0x8003, 5], [(0x0310, 0xAB#8)]) := by decide

theorem test_sta_0200_y :
    seen [0x99#8, 0#8, 2#8] (ready 0xAB#8 0#8 1#8 0xFD#8 0x24#8 []) =
      some ([0xAB, 0x00, 0x01, 0xFD, 0x24, 0x8003, 5], [(0x0201, 0xAB#8)]) := by decide

theorem test_stx_f0_y_wraps_inside_page_0 :
    seen [0x96#8, 0xF0#8] (ready 0#8 0x77#8 0x11#8 0xFD#8 0x24#8 []) =
      some ([0x00, 0x77, 0x11, 0xFD, 0x24, 0x8002, 4], [(0x0001, 0x77#8)]) := by decide

theorem test_stx_0123_a_store_into_the_stack_page :
    seen [0x8E#8, 0x23#8, 1#8] (ready 0#8 1#8 0#8 0xFD#8 0x24#8 []) =
      some ([0x00, 0x01, 0x00, 0xFD, 0x24, 0x8003, 4], [(0x0123, 1#8)]) := by decide

theorem test_sty_10_x_wraps_inside_page_0 :
    seen [0x94#8, 0x10#8] (ready 0#8 0xF1#8 0x66#8 0xFD#8 0x24#8 []) =
      some ([0x00, 0xF1, 0x66, 0xFD, 0x24, 0x8002, 4], [(0x0001, 0x66#8)]) := by decide

theorem test_tax :
    seen [0xAA#8] (ready 0x80#8 1#8 0#8 0xFD#8 0x24#8 []) =
      some ([0x80, 0x80, 0x00, 0xFD, 0xA4, 0x8001, 2], []) := by decide

theorem test_tay_zero :
    seen [0xA8#8] (ready 0#8 0#8 1#8 0xFD#8 0x24#8 []) =
      some ([0x00, 0x00, 0x00, 0xFD, 0x26, 0x8001, 2], []) := by decide

theorem test_txa :
    seen [0x8A#8] (ready 0#8 0x7F#8 0#8 0xFD#8 0x24#8 []) =
      some ([0x7F, 0x7F, 0x00, 0xFD, 0x24, 0x8001, 2], []) := by decide

theorem test_tya :
    seen [0x98#8] (ready 0#8 0#8 0xFF#8 0xFD#8 0x24#8 []) =
      some ([0xFF, 0x00, 0xFF, 0xFD, 0xA4, 0x8001, 2], []) := by decide

theorem test_tsx :
    seen [0xBA#8] (ready 0#8 0#8 0#8 0xFD#8 0x24#8 []) =
      some ([0x00, 0xFD, 0x00, 0xFD, 0xA4, 0x8001, 2], []) := by decide

theorem test_txs_writes_no_flag :
    seen [0x9A#8] (ready 0#8 0#8 0#8 0xFD#8 0x24#8 []) =
      some ([0x00, 0x00, 0x00, 0x00, 0x24, 0x8001, 2], []) := by decide

theorem test_adc_50plus_50_signed_overflow :
    seen [0x69#8, 0x50#8] (ready 0x50#8 0#8 0#8 0xFD#8 0x24#8 []) =
      some ([0xA0, 0x00, 0x00, 0xFD, 0xE4, 0x8002, 2], []) := by decide

theorem test_adc_01f0_x_page_cross :
    seen [0x7D#8, 0xF0#8, 1#8] (ready 1#8 0x20#8 0#8 0xFD#8 0x24#8 [(0x0210, 2#8)]) =
      some ([0x03, 0x20, 0x00, 0xFD, 0x24, 0x8003, 5], [(0x0210, 2#8)]) := by decide

theorem test_sbc_50_f0_c_1 :
    seen [0xE9#8, 0xF0#8] (ready 0x50#8 0#8 0#8 0xFD#8 0x25#8 []) =
      some ([0x60, 0x00, 0x00, 0xFD, 0x24, 0x8002, 2], []) := by decide

theorem test_sbc_50_b0_c_1_overflow :
    seen [0xE9#8, 0xB0#8] (ready 0x50#8 0#8 0#8 0xFD#8 0x25#8 []) =
      some ([0xA0, 0x00, 0x00, 0xFD, 0xE4, 0x8002, 2], []) := by decide

theorem test_and_to_zero :
    seen [0x29#8, 0x0F#8] (ready 0xF0#8 0#8 0#8 0xFD#8 0x24#8 []) =
      some ([0x00, 0x00, 0x00, 0xFD, 0x26, 0x8002, 2], []) := by decide

theorem test_and_negative :
    seen [0x29#8, 0xC0#8] (ready 0x81#8 0#8 0#8 0xFD#8 0x24#8 []) =
      some ([0x80, 0x00, 0x00, 0xFD, 0xA4, 0x8002, 2], []) := by decide

theorem test_ora :
    seen [9#8, 0x80#8] (ready 1#8 0#8 0#8 0xFD#8 0x24#8 []) =
      some ([0x81, 0x00, 0x00, 0xFD, 0xA4, 0x8002, 2], []) := by decide

theorem test_ora_zero :
    seen [9#8, 0#8] (ready 0#8 0#8 0#8 0xFD#8 0x24#8 []) =
      some ([0x00, 0x00, 0x00, 0xFD, 0x26, 0x8002, 2], []) := by decide

theorem test_eor_to_zero :
    seen [0x49#8, 0xFF#8] (ready 0xFF#8 0#8 0#8 0xFD#8 0x24#8 []) =
      some ([0x00, 0x00, 0x00, 0xFD, 0x26, 0x8002, 2], []) := by decide

theorem test_eor :
    seen [0x49#8, 0xFF#8] (ready 0x0F#8 0#8 0#8 0xFD#8 0x24#8 []) =
      some ([0xF0, 0x00, 0x00, 0xFD, 0xA4, 0x8002, 2], []) := by decide

theorem test_cmp_equal :
    seen [0xC9#8, 0x40#8] (ready 0x40#8 0#8 0#8 0xFD#8 0x24#8 []) =
      some ([0x40, 0x00, 0x00, 0xFD, 0x27, 0x8002, 2], []) := by decide

theorem test_cmp_a_m :
    seen [0xC9#8, 0x41#8] (ready 0x40#8 0#8 0#8 0xFD#8 0x24#8 []) =
      some ([0x40, 0x00, 0x00, 0xFD, 0xA4, 0x8002, 2], []) := by decide

theorem test_cpx_imm_10_x_m :
    seen [0xE0#8, 0x10#8] (ready 0#8 0x0F#8 0#8 0xFD#8 0x24#8 []) =
      some ([0x00, 0x0F, 0x00, 0xFD, 0xA4, 0x8002, 2], []) := by decide

theorem test_cpx_0200_equal :
    seen [0xEC#8, 0#8, 2#8] (ready 0#8 0xFF#8 0#8 0xFD#8 0x24#8 [(0x0200, 0xFF#8)]) =
      some ([0x00, 0xFF, 0x00, 0xFD, 0x27, 0x8003, 4], [(0x0200, 0xFF#8)]) := by decide

theorem test_cpy_imm_00_equal :
    seen [0xC0#8, 0#8] (ready 0#8 0#8 0#8 0xFD#8 0x24#8 []) =
      some ([0x00, 0x00, 0x00, 0xFD, 0x27, 0x8002, 2], []) := by decide

theorem test_bit_10_z_from_a_and_m_n_and_v_from_m :
    seen [0x24#8, 0x10#8] (ready 0x3F#8 0#8 0#8 0xFD#8 0x24#8 [(0x0010, 0xC0#8)]) =
      some ([0x3F, 0x00, 0x00, 0xFD, 0xE6, 0x8002, 3], [(0x0010, 0xC0#8)]) := by decide

theorem test_bit_0210_clears_n_v_z :
    seen [0x2C#8, 0x10#8, 2#8] (ready 1#8 0#8 0#8 0xFD#8 0xE4#8 [(0x0210, 1#8)]) =
      some ([0x01, 0x00, 0x00, 0xFD, 0x24, 0x8003, 4], [(0x0210, 1#8)]) := by decide

theorem test_inc_10_wraps_to_0 :
    seen [0xE6#8, 0x10#8] (ready 0#8 0#8 0#8 0xFD#8 0x24#8 [(0x0010, 0xFF#8)]) =
      some ([0x00, 0x00, 0x00, 0xFD, 0x26, 0x8002, 5], []) := by decide

theorem test_inc_0200_x_7_pulses_with_or_without_cross :
    seen [0xFE#8, 0#8, 2#8] (ready 0#8 0xFF#8 0#8 0xFD#8 0x24#8 [(0x02FF, 0x7F#8)]) =
      some ([0x00, 0xFF, 0x00, 0xFD, 0xA4, 0x8003, 7], [(0x02FF, 0x80#8)]) := by decide

theorem test_dec_10_wraps_to_ff :
    seen [0xC6#8, 0x10#8] (ready 0#8 0#8 0#8 0xFD#8 0x24#8 []) =
      some ([0x00, 0x00, 0x00, 0xFD, 0xA4, 0x8002, 5], [(0x0010, 0xFF#8)]) := by decide

theorem test_dec_10_x_to_zero :
    seen [0xD6#8, 0x10#8] (ready 0#8 1#8 0#8 0xFD#8 0x24#8 [(0x0011, 1#8)]) =
      some ([0x00, 0x01, 0x00, 0xFD, 0x26, 0x8002, 6], []) := by decide

theorem test_inx_wraps :
    seen [0xE8#8] (ready 0#8 0xFF#8 0#8 0xFD#8 0x24#8 []) =
      some ([0x00, 0x00, 0x00, 0xFD, 0x26, 0x8001, 2], []) := by decide

theorem test_iny_to_80 :
    seen [0xC8#8] (ready 0#8 0#8 0x7F#8 0xFD#8 0x24#8 []) =
      some ([0x00, 0x00, 0x80, 0xFD, 0xA4, 0x8001, 2], []) := by decide

theorem test_dex_wraps :
    seen [0xCA#8] (ready 0#8 0#8 0#8 0xFD#8 0x24#8 []) =
      some ([0x00, 0xFF, 0x00, 0xFD, 0xA4, 0x8001, 2], []) := by decide

theorem test_dey_to_zero :
    seen [0x88#8] (ready 0#8 0#8 1#8 0xFD#8 0x24#8 []) =
      some ([0x00, 0x00, 0x00, 0xFD, 0x26, 0x8001, 2], []) := by decide

theorem test_asl_a :
    seen [0x0A#8] (ready 0x81#8 0#8 0#8 0xFD#8 0x24#8 []) =
      some ([0x02, 0x00, 0x00, 0xFD, 0x25, 0x8001, 2], []) := by decide

theorem test_asl_10 :
    seen [6#8, 0x10#8] (ready 0#8 0#8 0#8 0xFD#8 0x24#8 [(0x0010, 0x40#8)]) =
      some ([0x00, 0x00, 0x00, 0xFD, 0xA4, 0x8002, 5], [(0x0010, 0x80#8)]) := by decide

theorem test_lsr_a :
    seen [0x4A#8] (ready 1#8 0#8 0#8 0xFD#8 0x24#8 []) =
      some ([0x00, 0x00, 0x00, 0xFD, 0x27, 0x8001, 2], []) := by decide

theorem test_lsr_10_x_index_wraps_in_page_0 :
    seen [0x56#8, 0x10#8] (ready 0#8 0xF8#8 0#8 0xFD#8 0x24#8 [(0x0008, 3#8)]) =
      some ([0x00, 0xF8, 0x00, 0xFD, 0x25, 0x8002, 6], [(0x0008, 1#8)]) := by decide

theorem test_rol_a_carry_in_1 :
    seen [0x2A#8] (ready 0x80#8 0#8 0#8 0xFD#8 0x25#8 []) =
      some ([0x01, 0x00, 0x00, 0xFD, 0x25, 0x8001, 2], []) := by decide

theorem test_rol_0200 :
    seen [0x2E#8, 0#8, 2#8] (ready 0#8 0#8 0#8 0xFD#8 0x25#8 [(0x0200, 0x7F#8)]) =
      some ([0x00, 0x00, 0x00, 0xFD, 0xA4, 0x8003, 6], [(0x0200, 0xFF#8)]) := by decide

theorem test_ror_a_carry_in_1 :
    seen [0x6A#8] (ready 1#8 0#8 0#8 0xFD#8 0x25#8 []) =
      some ([0x80, 0x00, 0x00, 0xFD, 0xA5, 0x8001, 2], []) := by decide

theorem test_ror_02f0_x_cross_7_pulses_always :
    seen [0x7E#8, 0xF0#8, 2#8] (ready 0#8 0x10#8 0#8 0xFD#8 0x25#8 []) =
      some ([0x00, 0x10, 0x00, 0xFD, 0xA4, 0x8003, 7], [(0x0300, 0x80#8)]) := by decide

theorem test_jmp_1234 :
    seen [0x4C#8, 0x34#8, 0x12#8] (ready 0#8 0#8 0#8 0xFD#8 0x24#8 []) =
      some ([0x00, 0x00, 0x00, 0xFD, 0x24, 0x1234, 3], []) := by decide

theorem test_jmp_0210 :
    seen [0x6C#8, 0x10#8, 2#8] (ready 0#8 0#8 0#8 0xFD#8 0x24#8 [(0x0210, 0x78#8), (0x0211, 0x56#8)]) =
      some ([0x00, 0x00, 0x00, 0xFD, 0x24, 0x5678, 5], [(0x0210, 0x78#8), (0x0211, 0x56#8)]) := by decide

theorem test_jsr_9000 :
    seen [0x20#8, 0#8, 0x90#8] (ready 0#8 0#8 0#8 0xFD#8 0x24#8 []) =
      some ([0x00, 0x00, 0x00, 0xFB, 0x24, 0x9000, 6], [(0x01FC, 2#8), (0x01FD, 0x80#8)]) := by decide

theorem test_jsr_9000_at_80fe_return_address_8100 :
    seen [0x20#8, 0#8, 0x90#8] (fromPc 0x80FE#16 (ready 0#8 0#8 0#8 0xFD#8 0x24#8 [])) =
      some ([0x00, 0x00, 0x00, 0xFB, 0x24, 0x9000, 6], [(0x01FD, 0x81#8)]) := by decide

theorem test_rts :
    seen [0x60#8] (ready 0#8 0#8 0#8 0xFB#8 0x24#8 [(0x01FC, 2#8), (0x01FD, 0x80#8)]) =
      some ([0x00, 0x00, 0x00, 0xFD, 0x24, 0x8003, 6], [(0x01FC, 2#8), (0x01FD, 0x80#8)]) := by decide

theorem test_rts_pulled_ffff_wraps :
    seen [0x60#8] (ready 0#8 0#8 0#8 0xFB#8 0x24#8 [(0x01FC, 0xFF#8), (0x01FD, 0xFF#8)]) =
      some ([0x00, 0x00, 0x00, 0xFD, 0x24, 0x0000, 6], [(0x01FC, 0xFF#8), (0x01FD, 0xFF#8)]) := by decide

theorem test_brk_irq_vector_9000 :
    seen [0#8, 0xEA#8] (irqTo 0x9000#16 (ready 0#8 0#8 0#8 0xFD#8 0x21#8 [])) =
      some ([0x00, 0x00, 0x00, 0xFA, 0x25, 0x9000, 7], [(0x01FB, 0x31#8), (0x01FC, 2#8), (0x01FD, 0x80#8)]) := by decide

theorem test_brk_stack_wraps_i_and_d_already_set :
    seen [0#8, 0xEA#8] (irqTo 0x9000#16 (ready 0#8 0#8 0#8 1#8 0xED#8 [])) =
      some ([0x00, 0x00, 0x00, 0xFE, 0xED, 0x9000, 7], [(0x0100, 2#8), (0x0101, 0x80#8), (0x01FF, 0xFD#8)]) := by decide

theorem test_rti :
    seen [0x40#8] (ready 0#8 0#8 0#8 0xFA#8 0x24#8 [(0x01FB, 0xFF#8), (0x01FC, 0x34#8), (0x01FD, 0x12#8)]) =
      some ([0x00, 0x00, 0x00, 0xFD, 0xEF, 0x1234, 6], [(0x01FB, 0xFF#8), (0x01FC, 0x34#8), (0x01FD, 0x12#8)]) := by decide

theorem test_rti_pulled_00_u_forced_i_cleared :
    seen [0x40#8] (ready 0#8 0#8 0#8 0xFA#8 0x24#8 [(0x01FD, 0x80#8)]) =
      some ([0x00, 0x00, 0x00, 0xFD, 0x20, 0x8000, 6], [(0x01FD, 0x80#8)]) := by decide

theorem test_bcc_plus_4_c_0_taken_c_1_not :
    seen [0x90#8, 4#8] (ready 0#8 0#8 0#8 0xFD#8 0x25#8 []) =
      some ([0x00, 0x00, 0x00, 0xFD, 0x25, 0x8002, 2], []) := by decide

theorem test_bcc_plus_0_taken_to_the_next_instruction :
    seen [0x90#8, 0#8] (ready 0#8 0#8 0#8 0xFD#8 0x24#8 []) =
      some ([0x00, 0x00, 0x00, 0xFD, 0x24, 0x8002, 3], []) := by decide

theorem test_bcs_plus_4_c_0_not_c_1_taken :
    seen [0xB0#8, 4#8] (ready 0#8 0#8 0#8 0xFD#8 0x24#8 []) =
      some ([0x00, 0x00, 0x00, 0xFD, 0x24, 0x8002, 2], []) := by decide

theorem test_bcs_plus_4_c_0_not_c_1_taken_b :
    seen [0xB0#8, 4#8] (ready 0#8 0#8 0#8 0xFD#8 0x25#8 []) =
      some ([0x00, 0x00, 0x00, 0xFD, 0x25, 0x8006, 3], []) := by decide

theorem test_bne_minus_2_a_branch_to_itself :
    seen [0xD0#8, 0xFE#8] (ready 0#8 0#8 0#8 0xFD#8 0x24#8 []) =
      some ([0x00, 0x00, 0x00, 0xFD, 0x24, 0x8000, 3], []) := by decide

theorem test_bne_plus_7f_at_80f0_forward_crosses :
    seen [0xD0#8, 0x7F#8] (fromPc 0x80F0#16 (ready 0#8 0#8 0#8 0xFD#8 0x24#8 [])) =
      some ([0x00, 0x00, 0x00, 0xFD, 0x24, 0x8171, 4], []) := by decide

theorem test_beq_plus_4_z_0_not_z_1_taken :
    seen [0xF0#8, 4#8] (ready 0#8 0#8 0#8 0xFD#8 0x24#8 []) =
      some ([0x00, 0x00, 0x00, 0xFD, 0x24, 0x8002, 2], []) := by decide

theorem test_beq_minus_128_at_8010_backward_crosses :
    seen [0xF0#8, 0x80#8] (fromPc 0x8010#16 (ready 0#8 0#8 0#8 0xFD#8 0x26#8 [])) =
      some ([0x00, 0x00, 0x00, 0xFD, 0x26, 0x7F92, 4], []) := by decide

theorem test_bpl_plus_2_at_80fd_next_instruction_at_80ff_target_8101_crosses :
    seen [0x10#8, 2#8] (fromPc 0x80FD#16 (ready 0#8 0#8 0#8 0xFD#8 0x24#8 [])) =
      some ([0x00, 0x00, 0x00, 0xFD, 0x24, 0x8101, 4], []) := by decide

theorem test_bpl_plus_1_at_80fd_target_8100_crosses :
    seen [0x10#8, 1#8] (fromPc 0x80FD#16 (ready 0#8 0#8 0#8 0xFD#8 0x24#8 [])) =
      some ([0x00, 0x00, 0x00, 0xFD, 0x24, 0x8100, 4], []) := by decide

theorem test_bmi_plus_4_n_0_not_n_1_taken :
    seen [0x30#8, 4#8] (ready 0#8 0#8 0#8 0xFD#8 0x24#8 []) =
      some ([0x00, 0x00, 0x00, 0xFD, 0x24, 0x8002, 2], []) := by decide

theorem test_bmi_plus_4_n_0_not_n_1_taken_b :
    seen [0x30#8, 4#8] (ready 0#8 0#8 0#8 0xFD#8 0xA4#8 []) =
      some ([0x00, 0x00, 0x00, 0xFD, 0xA4, 0x8006, 3], []) := by decide

theorem test_bvc_plus_4_v_0_taken_v_1_not :
    seen [0x50#8, 4#8] (ready 0#8 0#8 0#8 0xFD#8 0x24#8 []) =
      some ([0x00, 0x00, 0x00, 0xFD, 0x24, 0x8006, 3], []) := by decide

theorem test_bvc_plus_4_v_0_taken_v_1_not_b :
    seen [0x50#8, 4#8] (ready 0#8 0#8 0#8 0xFD#8 0x64#8 []) =
      some ([0x00, 0x00, 0x00, 0xFD, 0x64, 0x8002, 2], []) := by decide

theorem test_bvs_plus_4_v_0_not_v_1_taken :
    seen [0x70#8, 4#8] (ready 0#8 0#8 0#8 0xFD#8 0x24#8 []) =
      some ([0x00, 0x00, 0x00, 0xFD, 0x24, 0x8002, 2], []) := by decide

theorem test_bvs_plus_4_v_0_not_v_1_taken_b :
    seen [0x70#8, 4#8] (ready 0#8 0#8 0#8 0xFD#8 0x64#8 []) =
      some ([0x00, 0x00, 0x00, 0xFD, 0x64, 0x8006, 3], []) := by decide

theorem test_pha :
    seen [0x48#8] (ready 0x5A#8 0#8 0#8 0xFD#8 0x24#8 []) =
      some ([0x5A, 0x00, 0x00, 0xFC, 0x24, 0x8001, 3], [(0x01FD, 0x5A#8)]) := by decide

theorem test_pha_with_s_00_s_wraps_to_ff :
    seen [0x48#8] (ready 0x5A#8 0#8 0#8 0#8 0x24#8 []) =
      some ([0x5A, 0x00, 0x00, 0xFF, 0x24, 0x8001, 3], [(0x0100, 0x5A#8)]) := by decide

theorem test_pla_negative :
    seen [0x68#8] (ready 0#8 0#8 0#8 0xFC#8 0x24#8 [(0x01FD, 0x80#8)]) =
      some ([0x80, 0x00, 0x00, 0xFD, 0xA4, 0x8001, 4], [(0x01FD, 0x80#8)]) := by decide

theorem test_pla_with_s_ff_reads_0100 :
    seen [0x68#8] (ready 0#8 0#8 0#8 0xFF#8 0x24#8 []) =
      some ([0x00, 0x00, 0x00, 0x00, 0x26, 0x8001, 4], []) := by decide

theorem test_php_pushes_b_and_u_set :
    seen [8#8] (ready 0#8 0#8 0#8 0xFD#8 0x24#8 []) =
      some ([0x00, 0x00, 0x00, 0xFC, 0x24, 0x8001, 3], [(0x01FD, 0x34#8)]) := by decide

theorem test_php_all_flags :
    seen [8#8] (ready 0#8 0#8 0#8 0xFD#8 0xEF#8 []) =
      some ([0x00, 0x00, 0x00, 0xFC, 0xEF, 0x8001, 3], [(0x01FD, 0xFF#8)]) := by decide

theorem test_plp_ff_b_not_stored :
    seen [0x28#8] (ready 0#8 0#8 0#8 0xFC#8 0x24#8 [(0x01FD, 0xFF#8)]) =
      some ([0x00, 0x00, 0x00, 0xFD, 0xEF, 0x8001, 4], [(0x01FD, 0xFF#8)]) := by decide

theorem test_plp_00_u_forced :
    seen [0x28#8] (ready 0#8 0#8 0#8 0xFC#8 0xEF#8 []) =
      some ([0x00, 0x00, 0x00, 0xFD, 0x20, 0x8001, 4], []) := by decide

theorem test_clc :
    seen [0x18#8] (ready 0#8 0#8 0#8 0xFD#8 0xEF#8 []) =
      some ([0x00, 0x00, 0x00, 0xFD, 0xEE, 0x8001, 2], []) := by decide

theorem test_sec :
    seen [0x38#8] (ready 0#8 0#8 0#8 0xFD#8 0x24#8 []) =
      some ([0x00, 0x00, 0x00, 0xFD, 0x25, 0x8001, 2], []) := by decide

theorem test_cli :
    seen [0x58#8] (ready 0#8 0#8 0#8 0xFD#8 0xEF#8 []) =
      some ([0x00, 0x00, 0x00, 0xFD, 0xEB, 0x8001, 2], []) := by decide

theorem test_sei :
    seen [0x78#8] (ready 0#8 0#8 0#8 0xFD#8 0x20#8 []) =
      some ([0x00, 0x00, 0x00, 0xFD, 0x24, 0x8001, 2], []) := by decide

theorem test_clv :
    seen [0xB8#8] (ready 0#8 0#8 0#8 0xFD#8 0xEF#8 []) =
      some ([0x00, 0x00, 0x00, 0xFD, 0xAF, 0x8001, 2], []) := by decide

theorem test_cld :
    seen [0xD8#8] (ready 0#8 0#8 0#8 0xFD#8 0xEF#8 []) =
      some ([0x00, 0x00, 0x00, 0xFD, 0xE7, 0x8001, 2], []) := by decide

theorem test_sed :
    seen [0xF8#8] (ready 0#8 0#8 0#8 0xFD#8 0x24#8 []) =
      some ([0x00, 0x00, 0x00, 0xFD, 0x2C, 0x8001, 2], []) := by decide

theorem test_nop :
    seen [0xEA#8] (ready 1#8 2#8 3#8 0xFD#8 0xEF#8 []) =
      some ([0x01, 0x02, 0x03, 0xFD, 0xEF, 0x8001, 2], []) := by decide

theorem test_decode_refuses :
    (refusedBytes [] && refusedBytes [0x02#8, 0#8, 0#8] && refusedBytes [0xFF#8, 0#8, 0#8] && refusedBytes [0xA9#8] &&
      refusedBytes [0xAD#8, 0x34#8]) = true := by decide

/-- spec/opcode_table.json numbers bits from the first byte up: `LDA $1234` is $1234AD. -/
theorem test_table_word :
    decodeTableWord 24 0x1234AD = some (.ldaAbs 0x1234#16) ∧ decodeTableWord 8 0xAD = some (.ldaAbs 0#16) ∧
      decodeTableWord 8 0x02 = none := by decide

/-- The interface of the host: the placed word is the one the next step runs. -/
theorem test_step_runs_placed_word :
    nextAnd (step (State.reset.withFetchWord 16 0x42A9))
      (fun t => t.cpu.a == 0x42#8 && t.cpu.pc == 2#16 && t.cpu.total == 1 && t.ppu.cycle == 3) = true := by decide

/-- An illegal opcode stops the step with its byte and address (R150, R451). -/
theorem test_step_illegal :
    step (State.reset.withFetchWord 8 0x02) = .fault (.illegalOpcode 0x02#8 0#16) := rfl

/-! ### Reset and power-up (70_reset_and_hazards.md R481, R483, R485; 95_test_vectors.md T4) -/

theorem test_reset_registers :
    State.reset.cpu.s = 0xFD#8 ∧ State.reset.cpu.p = 0x24#8 ∧ State.reset.cpu.cyc = 7 ∧ State.reset.ppu.ctrl = 0#8 := by
  decide

/-- The first step after power-up only counts: `cyc` 7 to 6, and the PPU stands three cycles further. -/
theorem test_reset_first_step :
    nextAnd (step State.reset)
      (fun t => t.cpu.cyc == 6 && t.cpu.total == 1 && t.ppu.scanline == 0 && t.ppu.cycle == 3) = true := by decide

theorem test_host_reset :
    let s := placeBytes [0x00#8, 0x80#8] 0xFFFC#16 ((ready 0x11#8 0x22#8 0x33#8 0x40#8 0xEB#8 []).setPpu
      { State.reset.ppu with ctrl := 0x80#8, mask := 0x1E#8, w := true, readBuf := 0x99#8, v := 0x1234#15, vblank := true })
    let t := hostReset s
    [t.cpu.a, t.cpu.x, t.cpu.y, t.cpu.s, t.cpu.p, t.ppu.ctrl, t.ppu.mask, t.ppu.readBuf] =
        [0x11#8, 0x22#8, 0x33#8, 0xFD#8, 0x24#8, 0#8, 0#8, 0#8] ∧
      t.cpu.pc = 0x8000#16 ∧ t.cpu.cyc = 7 ∧ t.ppu.w = false ∧ t.ppu.v = 0x1234#15 ∧ t.ppu.vblank = true := by decide

/-! ### Interrupts (60_exceptions.md R447, R448; 95_test_vectors.md part 3) -/

theorem test_irq_accepted :
    let t := irq (irqTo 0xA000#16 (fromPc 0x1234#16 (ready 0#8 0#8 0#8 0xFD#8 0x63#8 [])))
    t.ram = [(0x01FB, 0x63#8), (0x01FC, 0x34#8), (0x01FD, 0x12#8)] ∧ t.cpu.s = 0xFA#8 ∧ t.cpu.p = 0x67#8 ∧
      t.cpu.pc = 0xA000#16 ∧ t.cpu.cyc = 7 := by decide

theorem test_irq_masked : irq (ready 0#8 0#8 0#8 0xFD#8 0x67#8 []) = ready 0#8 0#8 0#8 0xFD#8 0x67#8 [] := by decide

theorem test_nmi_stack_wraps :
    let t := nmi (nmiTo 0x9000#16 (fromPc 0xABCD#16 (ready 0#8 0#8 0#8 0x01#8 0xE5#8 [])))
    t.ram = [(0x0100, 0xCD#8), (0x0101, 0xAB#8), (0x01FF, 0xE5#8)] ∧ t.cpu.s = 0xFE#8 ∧ t.cpu.p = 0xE5#8 ∧
      t.cpu.pc = 0x9000#16 := by decide

/-! ### Bus, PPU registers, mapper, devices (95_test_vectors.md T1, T2, T7, T8, part 4) -/

theorem test_ram_mirror :
    let s := busWrite State.reset 0x1801#16 0x5C#8
    s.ram = [(1, 0x5C#8)] ∧ busPeek s 0x0801#16 = 0x5C#8 ∧ busPeek s 0x2001#16 = 0#8 := by decide

theorem test_scroll_writes :
    let s := busWrite (busWrite (busWrite State.reset 0x2000#16 0x03#8) 0x2005#16 0x7D#8) 0x2005#16 0x5E#8
    s.ppu.t = 0x6D6F#15 ∧ s.ppu.x = 5#3 ∧ s.ppu.w = false ∧ s.ppu.v = 0#15 := by decide

theorem test_address_writes_mirrored :
    let s := busWrite (busWrite State.reset 0x3FFE#16 0x21#8) 0x3FFE#16 0x08#8
    s.ppu.v = 0x2108#15 ∧ s.ppu.t = 0x2108#15 ∧ s.ppu.w = false := by decide

theorem test_data_port_buffer :
    let s := (withPpu fun p => { p with v := 0x2000#15, readBuf := 0x11#8 }).setVram [(0, 0xAA#8), (1, 0xBB#8)]
    let u := busTouch s 0x2007#16
    busPeek s 0x2007#16 = 0x11#8 ∧ busPeek u 0x2007#16 = 0xAA#8 ∧ u.ppu.v = 0x2001#15 := by decide

theorem test_data_port_rendering_quirk :
    (busTouch (withPpu fun p => { p with mask := 0x08#8, scanline := 10, v := 0x73BF#15 }) 0x2007#16).ppu.v =
      0x0C00#15 := by decide

theorem test_status_read :
    let s := withPpu fun p => { p with vblank := true, sprite0 := true, w := true }
    let u := busTouch s 0x2002#16
    busPeek s 0x2002#16 = 0xC0#8 ∧ busPeek u 0x2002#16 = 0x40#8 ∧ u.ppu.w = false := by decide

theorem test_palette_alias :
    palRead (palWrite State.reset.ppu 0x1C 0x07#8) 0x0C = 0x07#8 ∧
      palRead (palWrite State.reset.ppu 0x00 0x21#8) 0x10 = 0x21#8 := by decide

theorem test_nametable_index :
    [ntIndex .horizontal 0x2405, ntIndex .horizontal 0x2805, ntIndex .vertical 0x2405, ntIndex .singleHigh 0x2C05,
      ntIndex .horizontal 0x3F05] = [0x005, 0x405, 0x405, 0x405, 0x705] := by decide

theorem test_variant_b_serial :
    let w := fun (s : State) (v : Byte) => busWrite s 0x8000#16 v
    let s := State.reset.setMapper (.mmc1 Mmc1.powerUp)
    (w (w (w (w (w s 0#8) 1#8) 1#8) 1#8) 0#8).mapper =
      .mmc1 { shift := 0#5, wcount := 0, mctrl := 0x0E#5, chr0 := 0#5, chr1 := 0#5, prg := 0#5 } := by decide

theorem test_variant_c_bank :
    (busWrite ((State.reset.setMapper (.uxrom 0#8)).setCart { Cart.blank with prgBanks := 8 }) 0x8000#16 0xFD#8).mapper =
      .uxrom 5#8 := by decide

/-- R423: 256 bytes and a stall of 513 at an even total. -/
theorem test_oam_dma :
    let t := busWrite ((ready 2#8 0#8 0#8 0xFD#8 0x24#8 [(0x0200, 0x11#8), (0x02FF, 0x22#8)]).setTotal 100) 0x4014#16 2#8
    t.ppu.oam = [(0, 0x11#8), (255, 0x22#8)] ∧ t.ppu.oamAddr = 0#8 ∧ t.cpu.cyc = 513 := by
  decide +kernel

/-- R435: buttons $09 are read 1, 0, 0, 1, 0, 0, 0, 0, then the tail. -/
theorem test_controller_reads :
    let s := State.reset.setPad1 (some { Pad.powerUp with buttons := 0x09#8 })
    let u := busWrite (busWrite s 0x4016#16 1#8) 0x4016#16 0#8
    (List.range 9).map (fun k => busPeek (Nat.repeat (fun t => busTouch t 0x4016#16) k u) 0x4016#16) =
      [1#8, 0#8, 0#8, 1#8, 0#8, 0#8, 0#8, 0#8, 0#8] := by decide

/-! ### The PPU pulse (47_ppu_background.md R342 to R365, 48_ppu_sprites_output.md R412) -/

theorem test_scroll_examples :
    [incCoarseX 0x001F#15, incCoarseX 0x041F#15, incFineY 0x73A0#15, incFineY 0x73E0#15, incFineY 0x73C0#15,
      copyHorizontal 0x041F#15 0x7BE0#15, copyVertical 0x7BE0#15 0x041F#15] =
    [0x0400#15, 0x0000#15, 0x0800#15, 0x0000#15, 0x03E0#15, 0x7FFF#15, 0x7FFF#15] := by decide

theorem test_vblank_and_nmi :
    let t := ppuPulse ((gridPoint 241 1 0#8).setPpu { (gridPoint 241 1 0#8).ppu with ctrl := 0x80#8 })
    t.ppu.vblank = true ∧ t.cpu.s = 0xFA#8 ∧ t.cpu.cyc = 7 ∧ t.ppu.cycle = 2 := by decide

theorem test_prerender_clear :
    let s := gridPoint 261 1 0#8
    let t := ppuPulse (s.setPpu { s.ppu with vblank := true, sprite0 := true, overflow := true })
    t.ppu.vblank = false ∧ t.ppu.sprite0 = false ∧ t.ppu.overflow = false := by decide

theorem test_odd_frame_skip :
    let s := gridPoint 261 339 0x08#8
    let t := ppuPulse (s.setPpu { s.ppu with frameOdd := true })
    t.ppu.scanline = 0 ∧ t.ppu.cycle = 0 ∧ t.ppu.frameOdd = false := by decide

/-- The sprite of R412: copied at (34, 65), its flipped pattern byte fetched at (34, 261). -/
def spriteScene (c : Nat) : State :=
  let s := gridPoint 34 c 0x18#8
  (s.setPpu { s.ppu with oam := [(0, 0x20#8), (1, 5#8), (2, 0x41#8), (3, 0x0A#8)] }).setCart
    { Cart.blank with chr := [(0x52, 0x80#8)] }

theorem test_sprite_copied :
    let t := ppuPulse (spriteScene 65)
    t.ppu.secEval = [(0, 0x20#8), (1, 5#8), (2, 0x41#8), (3, 0x0A#8)] ∧ t.ppu.secEvalCount = 1 ∧
      t.ppu.secEvalHasZero = true := by decide

theorem test_sprite_fetched :
    let s := spriteScene 261
    (ppuPulse (s.setPpu { s.ppu with secRend := s.ppu.oam, secRendCount := 1 })).ppu.sprLo = [(0, 1#8)] := by decide

theorem test_sprite_pixel :
    spritePixel { State.reset.ppu with
      secRend := [(0, 0x20#8), (1, 5#8), (2, 0x41#8), (3, 0x0A#8)], secRendCount := 1, secRendHasZero := true,
      sprLo := [(0, 1#8)] } 0x11 = { value := 1#2, palette := 1#2, behind := false, isZero := true } := by decide

theorem test_compose :
    compose 0#2 0#2 1#2 1#2 false = 0x15#5 ∧ compose 1#2 2#2 1#2 1#2 true = 0x09#5 ∧ compose 0#2 3#2 0#2 1#2 true = 0#5 := by
  decide

theorem test_frame_swap : (ppuPulse (gridPoint 239 256 0#8)).ppu.front = true := by decide

/-! ### Witnesses: for each obligation with hypotheses, inputs that meet them -/

/-- The state with a CPU field changed. -/
def withCpu (f : Cpu → Cpu) : State := { State.reset with cpu := f State.reset.cpu }

/-- A reset state of variant B with control `mctrl` and bank `prg`. -/
def variantB (mctrl prg : BitVec 5) : State := State.reset.setMapper (.mmc1 { Mmc1.powerUp with mctrl := mctrl, prg := prg })

/-- A reset state of variant C with `n` PRG banks and bank `b`. -/
def variantC (n : Nat) (b : Byte) : State := (State.reset.setMapper (.uxrom b)).setCart { Cart.blank with prgBanks := n }

theorem witness_encodeInvertsDecode : decode [0xA9#8, 0x10#8, 0x77#8] = .ok (.ldaImm 0x10#8, [0x77#8]) := rfl

theorem witness_illegalOpcodesAreTheList :
    (0x02#8).toNat ∈ illegalOpcodes ∧ (0xFF#8).toNat ∈ illegalOpcodes ∧ (0x00#8).toNat ∉ illegalOpcodes ∧
      (0xFE#8).toNat ∉ illegalOpcodes := by decide

theorem witness_stepRunsDecodedInstruction :
    let s := State.reset.withFetchWord 16 0x42A9
    s.inputs = [] ∧ s.cpu.cyc = 0 ∧
      ∃ s1, fetchBytes (encode (.ldaImm 0x42#8)).length s = (encode (.ldaImm 0x42#8), s1) := ⟨rfl, rfl, _, rfl⟩

/-- Bytes at the end of the RAM mirrors, at the first and last mapper address, and across the wrap at $FFFF. -/
theorem witness_fetchFromMemory :
    ∀ k, k < 2 →
      (busRegion (0x1FFE#16 + BitVec.ofNat 16 k) = .ram ∨ busRegion (0x1FFE#16 + BitVec.ofNat 16 k) = .mapper) ∧
      (busRegion (0x6000#16 + BitVec.ofNat 16 k) = .ram ∨ busRegion (0x6000#16 + BitVec.ofNat 16 k) = .mapper) ∧
      (busRegion (0xFFFF#16 + BitVec.ofNat 16 k) = .ram ∨ busRegion (0xFFFF#16 + BitVec.ofNat 16 k) = .mapper) := by
  decide

theorem witness_illegalOpcodeStopsTheStep :
    let s := State.reset.withFetchWord 8 0x02
    s.inputs = [] ∧ s.cpu.cyc = 0 ∧ (busPeek s s.cpu.pc).toNat ∈ illegalOpcodes := by decide

theorem witness_midInstructionPulseOnlyCounts :
    State.reset.cpu.cyc ≠ 0 ∧ ∃ t, cpuPulse State.reset = .next t := ⟨by decide, _, rfl⟩

/-- With host events due, with none, and with a CPU pulse that stops. -/
theorem witness_iterationOrder :
    let e : HostInputs := { quietInputs with beforeCpu := [.irq], beforePpu2 := [.reset] }
    (State.reset.setInputs [e]).inputs = e :: [] ∧ State.reset.inputs = [] ∧
      (∃ t, cpuPulse (hostEvents e.beforeCpu (State.reset.setInputs [])) = .next t) ∧
      (∃ f, cpuPulse (hostEvents [] ((State.reset.withFetchWord 8 0x02).setInputs [])) = .fault f) :=
  ⟨rfl, rfl, ⟨_, rfl⟩, ⟨_, rfl⟩⟩

theorem witness_flagAndRegisterWriters :
    (∃ t, exec .nop State.reset = .next t) ∧ State.reset.cpu.inv = true ∧ mnemonicOf .nop ∉ flagWriters .b ∧
      mnemonicOf .nop ∉ flagWriters .c ∧ mnemonicOf .nop ∉ regWriters .s ∧ mnemonicOf .nop ∉ pcWriters :=
  ⟨⟨_, rfl⟩, by decide⟩

/-- A store, a form that stores nothing, and a push. -/
theorem witness_memoryFrame :
    State.reset.inv = true ∧ (∃ t, exec (.staZp0 0x10#8) State.reset = .next t) ∧
      Place.ram 0x11 ∉ storedPlaces (.staZp0 0x10#8) State.reset ∧ (∃ t, exec (.cmpImm 1#8) State.reset = .next t) ∧
      Place.ram 0x10 ∉ storedPlaces (.cmpImm 1#8) State.reset ∧ (∃ t, exec .pha State.reset = .next t) ∧
      Place.ram 0x1FC ∉ storedPlaces .pha State.reset :=
  ⟨by decide, ⟨_, rfl⟩, by decide, ⟨_, rfl⟩, by decide, ⟨_, rfl⟩, by decide⟩

/-- Each kind of memory a write reaches, at the ends of its window. -/
theorem witness_storedByteReadsBack :
    let chrRam := (withPpu fun p => { p with v := 0x1FFF#15 }).setCart { Cart.blank with chrBanks := 0 }
    let palette := withPpu fun p => { p with v := 0x3F10#15 }
    let names := withPpu fun p => { p with v := 0x3EFF#15 }
    (State.reset.inv && chrRam.inv && palette.inv && names.inv) = true ∧
      Place.ram 0x7FF ∈ storePlaces State.reset 0x1FFF#16 ∧ Place.oam 0 ∈ storePlaces State.reset 0x2004#16 ∧
      Place.chr 0x1FFF ∈ storePlaces chrRam 0x2007#16 ∧ Place.pal 0 ∈ storePlaces palette 0x3FFF#16 ∧
      Place.pal 16 ∈ storePlaces palette 0x3FFF#16 ∧ Place.vram 0x6FF ∈ storePlaces names 0x2007#16 ∧
      Place.prgRam 0 ∈ storePlaces State.reset 0x6000#16 ∧ Place.prgRam 0x1FFF ∈ storePlaces State.reset 0x7FFF#16 := by
  decide

theorem witness_mirrors :
    State.reset.ram.wf unlistedByte Config.ramSize = true ∧ (0x0000#16).toNat < 0x2000 ∧ (0x1FFF#16).toNat < 0x2000 ∧
      0x2000 ≤ (0x2000#16).toNat ∧ (0x3FFF#16).toNat < 0x4000 := by decide

theorem witness_unmappedAddresses :
    [0x4000#16, 0x4013#16, 0x4015#16, 0x4018#16, 0x5FFF#16].all (fun a => decide
      (0x4000 ≤ a.toNat ∧ a.toNat ≤ 0x4013 ∨ a.toNat = 0x4015 ∨ 0x4018 ≤ a.toNat ∧ a.toNat ≤ 0x5FFF)) = true := by decide

/-- The clauses at their boundary addresses; none of the last list falls under an earlier clause. -/
theorem witness_readSideEffects :
    [0x2002#16, 0x3FFA#16].all (fun a => decide (0x2000 ≤ a.toNat ∧ a.toNat < 0x4000 ∧ a.toNat % 8 = 2)) = true ∧
      [0x2007#16, 0x3FFF#16].all (fun a => decide (0x2000 ≤ a.toNat ∧ a.toNat < 0x4000 ∧ a.toNat % 8 = 7)) = true ∧
      [0x0000#16, 0x1FFF#16, 0x2001#16, 0x2006#16, 0x4000#16, 0x4015#16, 0x4018#16, 0xFFFF#16].all (fun a => decide
        (¬(0x2000 ≤ a.toNat ∧ a.toNat < 0x4000 ∧ (a.toNat % 8 = 2 ∨ a.toNat % 8 = 7)) ∧ a.toNat ≠ 0x4016 ∧
          a.toNat ≠ 0x4017)) = true := by decide

/-- Each variant and mode, at the ends of each window. -/
theorem witness_prgWindows :
    State.reset.mapper = .nrom ∧ (variantB 0x0C#5 0x10#5).mapper = .mmc1 { Mmc1.powerUp with prg := 0x10#5 } ∧
      (variantC 6 7#8).mapper = .uxrom 7#8 ∧
      [0x00#5, 0x07#5, 0x08#5, 0x0C#5].map (fun m => m.toNat / 4 % 4) = [0, 1, 2, 3] ∧ (0x10#5).getLsbD 4 = true ∧
      0x8000 ≤ (0x8000#16).toNat ∧ 0x8000 ≤ (0xFFFF#16).toNat ∧ 0x6000 ≤ (0x6000#16).toNat ∧
      (0x7FFF#16).toNat < 0x8000 := by decide

theorem witness_bankSelectWrites :
    (variantB 0x0C#5 0#5).mapper = .mmc1 Mmc1.powerUp ∧ Mmc1.powerUp.wcount = 0 ∧ 0x8000 ≤ (0x8000#16).toNat ∧
      0x8000 ≤ (0xFFFF#16).toNat ∧ (0x7F#8).toNat < 128 ∧ 128 ≤ (0x80#8).toNat ∧
      (variantC 1 0#8).mapper = .uxrom 0#8 ∧ 1 ≤ (variantC 1 0#8).cart.prgBanks ∧ (variantC 32 0#8).cart.prgBanks ≤ 32 := by
  decide

theorem witness_patternMemory :
    (0x0000#14).toNat ≤ 0x1FFF ∧ (0x1FFF#14).toNat ≤ 0x1FFF ∧ (∀ r : Mmc1, State.reset.mapper ≠ .mmc1 r) ∧
      (0x0F#5).toNat < 16 ∧ 16 ≤ (0x10#5).toNat :=
  ⟨by decide, by decide, fun _ h => Mapper.noConfusion h, by decide, by decide⟩

theorem witness_nametableMirroring :
    0x2000 ≤ (0x2000#14).toNat ∧ 0x2000 ≤ (0x3FFF#14).toNat ∧ (∀ r : Mmc1, State.reset.mapper ≠ .mmc1 r) ∧
      [0x1C#5, 0x0D#5, 0x0E#5, 0x1F#5].map (fun m => m.toNat % 4) = [0, 1, 2, 3] :=
  ⟨by decide, by decide, fun _ h => Mapper.noConfusion h, by decide⟩

theorem witness_paletteAliases : State.reset.ppu.pal.wf unlistedByte Config.paletteSize = true := by decide

theorem witness_romAndLaunchStateAreFixed : ∃ t, step State.reset = .next t := ⟨_, rfl⟩

theorem witness_oamDmaCopies :
    State.reset.ppu.oam.wf unlistedByte Config.oamSize = true ∧ (0x1F#8).toNat < 0x20 ∧ 0x60 ≤ (0x60#8).toNat ∧
      0x60 ≤ (0xFF#8).toNat := by decide

theorem witness_controllerPorts :
    (State.reset.setPad1 none).pad1 = none ∧ (State.reset.setPad2 none).pad2 = none ∧
      ({ Pad.powerUp with strobe := true } : Pad).strobe = true ∧ State.reset.pad1 = some Pad.powerUp ∧
      State.reset.pad2 = some Pad.powerUp ∧ (0x01#8).getLsbD 0 = true ∧ (0xFE#8).getLsbD 0 = false ∧ 7 < 8 ∧ ¬8 < 8 := by
  decide

/-- The eight register numbers at both ends of the window, and the toggle both ways. -/
theorem witness_ppuRegisters :
    (List.range 8).map (fun k => (BitVec.ofNat 16 (0x2000 + k)).toNat % 8) = [0, 1, 2, 3, 4, 5, 6, 7] ∧
      (List.range 8).map (fun k => (BitVec.ofNat 16 (0x3FF8 + k)).toNat % 8) = [0, 1, 2, 3, 4, 5, 6, 7] ∧
      (0x3FFF#16).toNat < 0x4000 ∧ State.reset.ppu.w = false ∧ (withPpu fun p => { p with w := true }).ppu.w = true := by
  decide

/-- $3F00 and $3EFF; rendering active on lines 0, 239 and 261 and not on 240. -/
theorem witness_dataPortWrite :
    0x3F00 ≤ (BitVec.ofNat 14 (0x3F00#15).toNat).toNat ∧ (BitVec.ofNat 14 (0x3EFF#15).toNat).toNat < 0x3F00 ∧
      (∀ l ∈ [0, 239, 261], (gridPoint l 0 0x08#8).ppu.mask.getLsbD 3 = true ∧
        ((gridPoint l 0 0x08#8).ppu.scanline ≤ 239 ∨ (gridPoint l 0 0x08#8).ppu.scanline = 261)) ∧
      ¬((gridPoint 240 0 0x08#8).ppu.scanline ≤ 239 ∨ (gridPoint 240 0 0x08#8).ppu.scanline = 261) := by decide

/-- The corners of the grid, and the skipped point. -/
theorem witness_gridAdvance :
    (gridPoint 261 340 0#8).ppu.scanline ≤ 261 ∧ (gridPoint 261 340 0#8).ppu.cycle ≤ 340 ∧ 341 * 261 + 340 = 89341 ∧
      (let s := withPpu fun p => { p with scanline := 261, cycle := 339, frameOdd := true, mask := 0x10#8 }
       s.ppu.scanline = 261 ∧ s.ppu.cycle = 339 ∧ s.ppu.frameOdd = true ∧
         (s.ppu.mask.getLsbD 3 = true ∨ s.ppu.mask.getLsbD 4 = true)) := by decide

/-- (241, 1) with the NMI enabled and not, (261, 1), and neither. -/
theorem witness_vblankAndNmi :
    (let s := withPpu fun p => { p with scanline := 241, cycle := 1, ctrl := 0x80#8 }
     s.ppu.scanline = 241 ∧ s.ppu.cycle = 1 ∧ s.ppu.ctrl.getLsbD 7 = true) ∧
      (gridPoint 241 1 0#8).ppu.ctrl.getLsbD 7 = false ∧ (gridPoint 261 1 0#8).ppu.scanline = 261 ∧
      ¬((gridPoint 241 2 0#8).ppu.scanline = 241 ∧ (gridPoint 241 2 0#8).ppu.cycle = 1) := by decide

theorem witness_idlePulse :
    ((gridPoint 0 1 0#8).ppu.mask.getLsbD 3 = false ∧ (gridPoint 0 1 0#8).ppu.mask.getLsbD 4 = false) ∧
      (∀ l ∈ [240, 260], 239 < (gridPoint l 1 0x18#8).ppu.scanline ∧ (gridPoint l 1 0x18#8).ppu.scanline ≠ 261) := by decide

/-- Either enable, each rendering line class, at the ends of the fetch windows. -/
theorem witness_backgroundPipeline :
    ((gridPoint 0 0 0x08#8).ppu.mask.getLsbD 3 = true ∧ (gridPoint 0 0 0x10#8).ppu.mask.getLsbD 4 = true) ∧
      (∀ l ∈ [0, 239, 261], (gridPoint l 1 0x08#8).ppu.scanline ≤ 239 ∨ (gridPoint l 1 0x08#8).ppu.scanline = 261) ∧
      (∀ c ∈ [1, 256, 321, 336], (1 ≤ c ∧ c ≤ 256) ∨ (321 ≤ c ∧ c ≤ 336)) ∧
      (∀ c ∈ [0, 257, 320, 337, 340], ¬((1 ≤ c ∧ c ≤ 256) ∨ (321 ≤ c ∧ c ≤ 336))) := by decide

/-- The first and last cycles and entries; an entry on its first and last row and just outside; 7 and 8 held. -/
theorem witness_spriteEvaluation :
    ((gridPoint 7 65 0x10#8).ppu.mask.getLsbD 4 = true) ∧
      State.reset.ppu.secEval.wf unlistedSecondary Config.secondarySize = true ∧
      (1 ≤ 1 ∧ 64 ≤ 64) ∧ (65 = 65 + 3 * 0 ∧ 254 = 65 + 3 * 63) ∧ (∀ n, n < 64 → 66 ≠ 65 + 3 * n) ∧
      (let p := (gridPoint 7 65 0x10#8).ppu
       (oamRead p 0).toNat ≤ p.scanline ∧ p.scanline < (oamRead p 0).toNat + (if p.ctrl.getLsbD 5 then 16 else 8)) ∧
      (let p := (gridPoint 8 65 0x10#8).ppu
       ¬((oamRead p 0).toNat ≤ p.scanline ∧ p.scanline < (oamRead p 0).toNat + (if p.ctrl.getLsbD 5 then 16 else 8))) ∧
      (let p := { (gridPoint 15 65 0x10#8).ppu with ctrl := 0x20#8, secEvalCount := 8 }
       8 ≤ p.secEvalCount ∧ p.scanline < (oamRead p 0).toNat + (if p.ctrl.getLsbD 5 then 16 else 8)) := by decide

/-- Cycles 257 and 320, the two fetch phases, a used and an empty slot, an entry at the line. -/
theorem witness_spriteFetch :
    State.reset.ppu.sprLo.wf unlistedByte Config.slotCount = true ∧
      State.reset.ppu.sprHi.wf unlistedByte Config.slotCount = true ∧
      (∀ c ∈ [257, 261, 263, 320], 257 ≤ (gridPoint 261 c 0x08#8).ppu.cycle ∧ (gridPoint 261 c 0x08#8).ppu.cycle ≤ 320) ∧
      (261 - 257) % 8 = 4 ∧ (263 - 257) % 8 = 6 ∧
      (let p := { (gridPoint 239 261 0x18#8).ppu with secRendCount := 1, secRend := [(0, 239#8)] }
       (p.cycle - 257) / 8 < p.secRendCount ∧ (secRendRead p 0).toNat ≤ p.scanline) ∧
      State.reset.ppu.secRendCount ≤ (261 - 257) / 8 := by decide

/-- No slot opaque; and slot 1 the first opaque one at the last column it covers. -/
theorem witness_spritePixelIsFirstOpaque :
    let pixel := fun (p : Ppu) (col k : Nat) =>
      let x := (secRendRead p (4 * k + 3)).toNat
      if x ≤ col ∧ col ≤ x + 7 then
        2 * ((p.sprHi.read unlistedByte k).getLsbD (7 - (col - x))).toNat +
          ((p.sprLo.read unlistedByte k).getLsbD (7 - (col - x))).toNat
      else 0
    let p := { State.reset.ppu with secRendCount := 2, secRend := [(3, 0#8), (7, 0#8)], sprLo := [(1, 1#8)] }
    (∀ k, k < p.secRendCount → pixel p 8 k = 0) ∧ 1 < p.secRendCount ∧ pixel p 7 1 ≠ 0 ∧ (∀ j, j < 1 → pixel p 7 j = 0) := by
  decide

/-- The first and last pixels, and another pixel of the same line. -/
theorem witness_pixelOutput :
    (∀ e ∈ [(0, 1), (239, 256), (10, 8), (10, 9)],
      let p := (gridPoint e.1 e.2 0x18#8).ppu
      p.scanline ≤ 239 ∧ 1 ≤ p.cycle ∧ p.cycle ≤ 256 ∧ p.mask.getLsbD 3 = true ∧ p.mask.getLsbD 4 = true ∧
        p.fb0.wf unlistedByte Config.frameBytes = true ∧ p.fb1.wf unlistedByte Config.frameBytes = true) ∧
      ((239, 255) : Nat × Nat) ≠ (239, 254) := by decide

theorem witness_frontBufferIsNotWritten :
    let p := (gridPoint 239 257 0x18#8).ppu
    ¬(p.scanline ≤ 239 ∧ 1 ≤ p.cycle ∧ p.cycle ≤ 256 ∧ p.mask.getLsbD 3 = true ∧ p.mask.getLsbD 4 = true) := by decide

theorem witness_interruptEntry :
    flagI (ready 0#8 0#8 0#8 0xFD#8 0x20#8 []).cpu.p = false ∧ flagI State.reset.cpu.p = true ∧
      State.reset.params.intCharge = .assign ∧
      ({ Config.defaultParams with intCharge := .add } : Params).intCharge = .add := by decide

theorem witness_entryThenRtiResumes :
    (ready 0#8 0#8 0#8 0xFD#8 0x20#8 []).inv = true ∧ flagI (ready 0#8 0#8 0#8 0xFD#8 0x20#8 []).cpu.p = false := by decide

theorem witness_stepKeepsInvariant : State.reset.inv = true ∧ ∃ t, step State.reset = .next t := ⟨by decide, _, rfl⟩

/-- The image of R498 with the given header bytes 6, 7 and 10. -/
def image (b6 b7 b10 : Byte) : List Byte :=
  [0x4E#8, 0x45#8, 0x53#8, 0x1A#8, 1#8, 1#8, b6, b7, 0#8, 0#8, b10, 0#8, 0#8, 0#8, 0#8, 0#8] ++ List.replicate 24576 0#8

theorem image_length (b6 b7 b10 : Byte) : (image b6 b7 b10).length = 24592 := by
  simp only [image, List.length_append, List.length_cons, List.length_nil, List.length_replicate]

theorem image_header (b6 b7 b10 : Byte) (n : Nat) (h : n < 16) :
    (image b6 b7 b10).getD n 0#8 =
      [0x4E#8, 0x45#8, 0x53#8, 0x1A#8, 1#8, 1#8, b6, b7, 0#8, 0#8, b10, 0#8, 0#8, 0#8, 0#8, 0#8].getD n 0#8 := by
  rw [image, List.getD_append]
  exact h

/-- Mapper numbers 0, 1, 2 and 3, and $13 masked to 3. -/
theorem witness_loadFailures :
    ∀ e ∈ [(0x00#8, 0x00#8, 0#8, 0), (0x10#8, 0x00#8, 0#8, 1), (0x20#8, 0x00#8, 0#8, 2), (0x30#8, 0x00#8, 0#8, 3),
        (0x30#8, 0x10#8, 1#8, 3)],
      let img := image e.1 e.2.1 e.2.2.1
      let byte := fun n => (img.getD n 0#8).toNat
      let full := byte 7 / 16 * 16 + byte 6 / 16
      16 ≤ img.length ∧ byte 0 = 0x4E ∧ byte 1 = 0x45 ∧ byte 2 = 0x53 ∧ byte 3 = 0x1A ∧ byte 7 / 4 % 4 ≠ 2 ∧ 1 ≤ byte 4 ∧
        byte 4 ≤ 32 ∧ byte 5 ≤ 32 ∧
        16 + (if byte 6 / 4 % 2 = 1 then 512 else 0) + byte 4 * 16384 + byte 5 * 8192 ≤ img.length ∧
        (if byte 10 % 16 = 0 then full else full % 16) = e.2.2.2 := by
  intro e he
  simp only [image_length, image_header _ _ _ _ (by decide : 0 < 16), image_header _ _ _ _ (by decide : 1 < 16),
    image_header _ _ _ _ (by decide : 2 < 16), image_header _ _ _ _ (by decide : 3 < 16),
    image_header _ _ _ _ (by decide : 4 < 16), image_header _ _ _ _ (by decide : 5 < 16),
    image_header _ _ _ _ (by decide : 6 < 16), image_header _ _ _ _ (by decide : 7 < 16),
    image_header _ _ _ _ (by decide : 10 < 16)]
  simp only [List.mem_cons, List.not_mem_nil, or_false] at he
  rcases he with rfl | rfl | rfl | rfl | rfl <;> decide +kernel

theorem witness_loadedCartridge : ∃ c, loadCartridge (image 0#8 0#8 0#8) = .ok (c, .nrom) := by
  have h : formatOk (image 0#8 0#8 0#8) = true := by
    have h4 : (image 0#8 0#8 0#8).take 4 = magic := by
      rw [image, List.take_append_of_le_length (by decide)]
      rfl
    simp only [formatOk, declaredSize, headerPrgBanks, headerChrBanks, trainerBytes, headerByte, image_length, h4,
      image_header _ _ _ _ (by decide : 4 < 16), image_header _ _ _ _ (by decide : 5 < 16),
      image_header _ _ _ _ (by decide : 6 < 16), image_header _ _ _ _ (by decide : 7 < 16)]
    decide +kernel
  have hm : mapperId (image 0#8 0#8 0#8) = 0 := by
    simp only [mapperId, headerByte, image_header _ _ _ _ (by decide : 6 < 16), image_header _ _ _ _ (by decide : 7 < 16),
      image_header _ _ _ _ (by decide : 10 < 16)]
    decide
  exact ⟨cartOf (image 0#8 0#8 0#8), by rw [loadCartridge, if_pos h, hm]; simp only [mapperOf]⟩

theorem witness_loadFailures_refused : loadCartridge [] = .error .formatError := rfl

end Sys2Proof.Tests
end

section
/-! The address map of the CPU bus (20_memory.md R81 to R93) as one lemma per region a memory statement speaks of, and
the mapper's side of it. -/

namespace Sys2Proof.Machine

theorem busRegion_of_lt_2000 {a : Addr} (h : a.toNat < 0x2000) : busRegion a = .ram := if_pos h

theorem busRegion_of_ppu {a : Addr} (h : 0x2000 ≤ a.toNat) (h' : a.toNat < 0x4000) : busRegion a = .ppu := by
  rw [busRegion, if_neg (by omega), if_pos h']

theorem busRegion_of_ge_6000 {a : Addr} (h : 0x6000 ≤ a.toNat) : busRegion a = .mapper := by
  rw [busRegion, if_neg (by omega), if_neg (by omega), if_neg (by omega), if_neg (by omega), if_neg (by omega),
    if_neg (by omega)]

/-! ### The three bus operations in each region -/

theorem busPeek_of_ram {s : State} {a : Addr} (h : busRegion a = .ram) : busPeek s a = ramRead s (a.toNat % 2048) := by
  rw [busPeek, h, ramIndex]

theorem busTouch_of_ram {s : State} {a : Addr} (h : busRegion a = .ram) : busTouch s a = s := by
  rw [busTouch, h]

theorem busWrite_of_ram {s : State} {a : Addr} {v : Byte} (h : busRegion a = .ram) :
    busWrite s a v = ramWrite s (a.toNat % 2048) v := by
  rw [busWrite, h, ramIndex]

theorem busPeek_of_ppu {s : State} {a : Addr} (h : busRegion a = .ppu) : busPeek s a = ppuRegPeek s (a.toNat % 8) := by
  rw [busPeek, h, ppuRegIndex]

theorem busTouch_of_ppu {s : State} {a : Addr} (h : busRegion a = .ppu) :
    busTouch s a = ppuRegTouch s (a.toNat % 8) := by
  rw [busTouch, h, ppuRegIndex]

theorem busWrite_of_ppu {s : State} {a : Addr} {v : Byte} (h : busRegion a = .ppu) :
    busWrite s a v = ppuRegWrite s (a.toNat % 8) v := by
  rw [busWrite, h, ppuRegIndex]

theorem busPeek_of_mapper {s : State} {a : Addr} (h : busRegion a = .mapper) :
    busPeek s a = mapperCpuRead s a.toNat := by
  rw [busPeek, h]

theorem busWrite_of_mapper {s : State} {a : Addr} {v : Byte} (h : busRegion a = .mapper) :
    busWrite s a v = mapperCpuWrite s a.toNat v := by
  rw [busWrite, h]

/-! ### PRG-RAM, $6000 to $7FFF -/

theorem busPeek_prgRam {s : State} {a : Addr} (h : 0x6000 ≤ a.toNat) (h' : a.toNat < 0x8000) :
    busPeek s a = if prgRamEnabled s then prgRamRead s (a.toNat - 0x6000) else 0#8 := by
  rw [busPeek_of_mapper (busRegion_of_ge_6000 h), mapperCpuRead, if_pos h']

theorem busWrite_prgRam {s : State} {a : Addr} {v : Byte} (h : 0x6000 ≤ a.toNat) (h' : a.toNat < 0x8000) :
    busWrite s a v = if prgRamEnabled s then prgRamWrite s (a.toNat - 0x6000) v else s := by
  rw [busWrite_of_mapper (busRegion_of_ge_6000 h), mapperCpuWrite, if_pos h']

/-- PRG-RAM is out of reach only in variant B with bit 4 of its PRG register set (20_memory.md R120). -/
theorem prgRamEnabled_eq_false_iff (s : State) :
    prgRamEnabled s = false ↔ ∃ r : Mmc1, s.mapper = .mmc1 r ∧ r.prg.getLsbD 4 = true := by
  unfold prgRamEnabled
  cases s.mapper <;> simp

/-! ### The PRG windows, $8000 to $FFFF -/

theorem busPeek_prgWindow {s : State} {a : Addr} {bank : Nat} (h : 0x8000 ≤ a.toNat)
    (hw : prgWindow s (decide (0xC000 ≤ a.toNat)) = some bank) :
    busPeek s a = prgRomRead s (bank * 16384 + a.toNat % 16384) := by
  rw [busPeek_of_mapper (busRegion_of_ge_6000 (by omega)), mapperCpuRead, if_neg (by omega), prgWindowByte, hw,
    Config.prgBankSize]

theorem busPeek_prgWindow_none {s : State} {a : Addr} (h : 0x8000 ≤ a.toNat)
    (hw : prgWindow s (decide (0xC000 ≤ a.toNat)) = none) : busPeek s a = 0#8 := by
  rw [busPeek_of_mapper (busRegion_of_ge_6000 (by omega)), mapperCpuRead, if_neg (by omega), prgWindowByte, hw]

theorem prgWindow_nrom {s : State} (hm : s.mapper = .nrom) (high : Bool) :
    prgWindow s high = some (if high then s.cart.prgBanks - 1 else 0) := by
  rw [prgWindow, hm]

theorem prgWindow_mmc1 {s : State} {r : Mmc1} (hm : s.mapper = .mmc1 r) (high : Bool) :
    prgWindow s high = some (mmc1PrgBank s.cart r high) := by
  rw [prgWindow, hm]

theorem prgWindow_uxrom {s : State} {n : Byte} (hm : s.mapper = .uxrom n) (high : Bool) :
    prgWindow s high = if high then some (s.cart.prgBanks - 1)
      else if n.toNat < s.cart.prgBanks then some n.toNat else none := by
  rw [prgWindow, hm]

/-- The mask that makes a 4-bit bank number even. -/
theorem and_0xE_of_lt_16 : ∀ b < 16, b &&& 0xE = b / 2 * 2 := by decide

/-- The odd partner of an even bank number. -/
theorem even_or_one (b : Nat) : b / 2 * 2 ||| 1 = b / 2 * 2 + 1 := by
  rw [Nat.mul_comm]
  exact (Nat.two_pow_add_eq_or_of_lt (i := 1) (by decide : 1 < 2 ^ 1) (b / 2)).symm

/-- Modes 0 and 1: a 32 KB pair of banks (20_memory.md R118). -/
theorem mmc1PrgBank_pair {r : Mmc1} (h : r.mctrl.toNat / 4 % 4 ≤ 1) (c : Cart) (high : Bool) :
    mmc1PrgBank c r high = (r.prg.toNat % 16 / 2 * 2 + if high then 1 else 0) % c.prgBanks := by
  have heven := and_0xE_of_lt_16 (r.prg.toNat % 16) (Nat.mod_lt _ (by decide))
  have hmode : r.mctrl.toNat / 4 % 4 = 0 ∨ r.mctrl.toNat / 4 % 4 = 1 := by omega
  rcases hmode with hmode | hmode <;> cases high <;> simp [mmc1PrgBank, prgBankMod, hmode, heven, even_or_one]

/-- Mode 2: bank 0 below, the selected bank above. -/
theorem mmc1PrgBank_fixFirst {r : Mmc1} (h : r.mctrl.toNat / 4 % 4 = 2) (c : Cart) (high : Bool) :
    mmc1PrgBank c r high = (if high then r.prg.toNat % 16 else 0) % c.prgBanks := by
  cases high <;> simp [mmc1PrgBank, prgBankMod, h]

/-- Mode 3: the selected bank below, the last bank above. -/
theorem mmc1PrgBank_fixLast {r : Mmc1} (h : r.mctrl.toNat / 4 % 4 = 3) (c : Cart) (high : Bool) :
    mmc1PrgBank c r high = (if high then c.prgBanks - 1 else r.prg.toNat % 16) % c.prgBanks := by
  cases high <;> simp [mmc1PrgBank, prgBankMod, h]

/-! ### Writes to $8000 to $FFFF -/

@[simp] theorem State.setMapper_setMapper (m n : Mapper) (s : State) : (s.setMapper m).setMapper n = s.setMapper n := rfl

theorem busWrite_nrom {s : State} {a : Addr} {v : Byte} (hm : s.mapper = .nrom) (h : 0x8000 ≤ a.toNat) :
    busWrite s a v = s := by
  rw [busWrite_of_mapper (busRegion_of_ge_6000 (by omega)), mapperCpuWrite, if_neg (by omega), hm]

theorem busWrite_mmc1 {s : State} {r : Mmc1} {a : Addr} {v : Byte} (hm : s.mapper = .mmc1 r) (h : 0x8000 ≤ a.toNat) :
    busWrite s a v = s.setMapper (.mmc1 (mmc1Serial r a.toNat v)) := by
  rw [busWrite_of_mapper (busRegion_of_ge_6000 (by omega)), mapperCpuWrite, if_neg (by omega), hm]

theorem busWrite_uxrom {s : State} {n : Byte} {a : Addr} {v : Byte} (hm : s.mapper = .uxrom n)
    (h : 0x8000 ≤ a.toNat) : busWrite s a v = s.setMapper (.uxrom (uxromBank s.cart v)) := by
  rw [busWrite_of_mapper (busRegion_of_ge_6000 (by omega)), mapperCpuWrite, if_neg (by omega), hm]

/-! ### Variant B's serial register (20_memory.md R115, R116) -/

/-- The five-bit value after one serial bit: the old value one place down, bit 0 of the byte in bit 4. -/
def serialShift (sh : BitVec 5) (v : Byte) : BitVec 5 := (sh >>> 1) ||| (if v.getLsbD 0 then 0x10#5 else 0#5)

theorem serialShift_toNat (sh : BitVec 5) (v : Byte) :
    (serialShift sh v).toNat = sh.toNat / 2 + 16 * (v.toNat % 2) := by
  have hbit : ∀ (sh : BitVec 5) (b : Bool),
      ((sh >>> 1) ||| (if b then 0x10#5 else 0#5)).toNat = sh.toNat / 2 + 16 * b.toNat := by decide
  rw [serialShift, hbit, BitVec.getLsbD, Nat.toNat_testBit]
  simp

/-- After five serial bits nothing of the old value is left, and the first bit is the lowest. -/
theorem serialShift_five (sh : BitVec 5) (v1 v2 v3 v4 v5 : Byte) :
    serialShift (serialShift (serialShift (serialShift (serialShift sh v1) v2) v3) v4) v5 =
      BitVec.ofNat 5 (v1.toNat % 2 + 2 * (v2.toNat % 2) + 4 * (v3.toNat % 2) + 8 * (v4.toNat % 2) +
        16 * (v5.toNat % 2)) := by
  have hsh := sh.isLt
  apply BitVec.eq_of_toNat_eq
  simp only [serialShift_toNat, BitVec.toNat_ofNat]
  omega

theorem mmc1Serial_reset {r : Mmc1} {a : Nat} {v : Byte} (hv : 128 ≤ v.toNat) :
    mmc1Serial r a v = { r with shift := 0#5, wcount := 0 } := by
  rw [mmc1Serial, byte_msb_iff, if_pos (decide_eq_true hv)]

theorem mmc1Serial_shift {r : Mmc1} {a : Nat} {v : Byte} (hv : v.toNat < 128) (hc : r.wcount + 1 ≠ 5) :
    mmc1Serial r a v = { r with shift := serialShift r.shift v, wcount := r.wcount + 1 } := by
  rw [mmc1Serial, byte_msb_iff, if_neg (by simpa using hv), if_neg hc, serialShift]

/-- The fifth write puts the value in the register of the address's high nibble. -/
theorem mmc1Serial_fifth {r : Mmc1} {a : Addr} {v : Byte} (ha : 0x8000 ≤ a.toNat) (hv : v.toNat < 128)
    (hc : r.wcount + 1 = 5) :
    mmc1Serial r a.toNat v =
      { shift := 0#5, wcount := 0,
        mctrl := if a.toNat / 4096 = 8 ∨ a.toNat / 4096 = 9 then serialShift r.shift v else r.mctrl,
        chr0 := if a.toNat / 4096 = 10 ∨ a.toNat / 4096 = 11 then serialShift r.shift v else r.chr0,
        chr1 := if a.toNat / 4096 = 12 ∨ a.toNat / 4096 = 13 then serialShift r.shift v else r.chr1,
        prg := if a.toNat / 4096 = 14 ∨ a.toNat / 4096 = 15 then serialShift r.shift v else r.prg } := by
  have hlt := a.isLt
  have hreg : a.toNat < 0xA000 ∨ (0xA000 ≤ a.toNat ∧ a.toNat < 0xC000) ∨ (0xC000 ≤ a.toNat ∧ a.toNat < 0xE000) ∨
      0xE000 ≤ a.toNat := by omega
  rw [mmc1Serial, byte_msb_iff, if_neg (by simpa using hv), if_pos hc]
  rcases hreg with h | h | h | h <;> simp (disch := omega) only [if_pos, if_neg, serialShift]

/-! ### Variant C's bank mask (20_memory.md R124) -/

/-- `leastWidth` finds the least width from `k` on, when one is within its fuel. -/
theorem leastWidth_spec {fuel k n : Nat} (h : n ≤ 2 ^ (k + fuel)) :
    leastWidth fuel k n ≤ k + fuel ∧ n ≤ 2 ^ leastWidth fuel k n ∧
      ∀ j, k ≤ j → j < leastWidth fuel k n → 2 ^ j < n := by
  induction fuel generalizing k with
  | zero => exact ⟨Nat.le_refl _, h, fun j hj hj' => absurd hj' (Nat.not_lt.2 hj)⟩
  | succ fuel ih =>
    rw [leastWidth]
    split
    · next hn => exact ⟨by omega, hn, fun j hj hj' => absurd hj' (Nat.not_lt.2 hj)⟩
    · next hn =>
      obtain ⟨hle, hcover, hleast⟩ := ih (k := k + 1) (by rwa [Nat.add_right_comm])
      refine ⟨by omega, hcover, fun j hj hj' => ?_⟩
      rcases Nat.eq_or_lt_of_le hj with rfl | hlt
      · exact Nat.lt_of_not_le hn
      · exact hleast j hlt hj'

/-- Masking a byte with `k` low bits is taking it modulo `2 ^ k`. -/
theorem and_lowMask_eq {k : Nat} (hk : k ≤ 8) (v : Byte) :
    v &&& BitVec.ofNat 8 (2 ^ k - 1) = BitVec.ofNat 8 (v.toNat % 2 ^ k) := by
  have hpow : 2 ^ k ≤ 2 ^ 8 := Nat.pow_le_pow_right (by decide) hk
  have hpos : 0 < 2 ^ k := Nat.two_pow_pos k
  apply BitVec.eq_of_toNat_eq
  rw [BitVec.toNat_and, BitVec.toNat_ofNat, BitVec.toNat_ofNat, Nat.mod_eq_of_lt (by omega),
    Nat.and_two_pow_sub_one_eq_mod, Nat.mod_eq_of_lt (Nat.lt_of_lt_of_le (Nat.mod_lt _ hpos) hpow)]

end Sys2Proof.Machine
end

section
/-! The PPU's address space (20_memory.md R97 to R105): pattern memory, nametables, palette. -/

namespace Sys2Proof.Machine

theorem ppuRd_pattern {s : State} {a : BitVec 14} (h : a.toNat ≤ 0x1FFF) :
    ppuRd s a = chrRead s (chrCell s a.toNat) := by
  rw [ppuRd, if_pos h, mapperPpuRead]

theorem ppuWr_pattern {s : State} {a : BitVec 14} {v : Byte} (h : a.toNat ≤ 0x1FFF) :
    ppuWr s a v = if s.cart.chrBanks = 0 then chrWrite s (chrCell s a.toNat) v else s := by
  rw [ppuWr, if_pos h, mapperPpuWrite, chrIsRam]
  simp only [decide_eq_true_eq]

theorem chrCell_of_not_mmc1 {s : State} (hm : ∀ r : Mmc1, s.mapper ≠ .mmc1 r) (a : Nat) : chrCell s a = a := by
  unfold chrCell
  split
  · rfl
  · next r hr => exact absurd hr (hm r)
  · rfl

theorem chrCell_mmc1 {s : State} {r : Mmc1} (hm : s.mapper = .mmc1 r) (a : Nat) :
    chrCell s a = mmc1ChrUnit s.cart r (decide (0x1000 ≤ a)) * 4096 + a % 4096 := by
  rw [chrCell, hm]

theorem getLsbD_four (b : BitVec 5) : b.getLsbD 4 = decide (16 ≤ b.toNat) := BitVec.getLsbD_last b

theorem and_0x1E_of_lt_32 : ∀ b < 32, b &&& 0x1E = b / 2 * 2 := by decide

/-- 8 KB mode: a pair of 4 KB units (20_memory.md R119). -/
theorem mmc1ChrUnit_pair {r : Mmc1} (h : r.mctrl.toNat < 16) (c : Cart) (high : Bool) :
    mmc1ChrUnit c r high = (r.chr0.toNat / 2 * 2 + if high then 1 else 0) % (2 * chrBankCount c) := by
  have heven := and_0x1E_of_lt_32 r.chr0.toNat r.chr0.isLt
  rw [mmc1ChrUnit, getLsbD_four, if_neg (by simpa using h), chrUnitMod, heven, even_or_one]
  cases high <;> rfl

/-- 4 KB mode: a unit of its own for each half. -/
theorem mmc1ChrUnit_single {r : Mmc1} (h : 16 ≤ r.mctrl.toNat) (c : Cart) (high : Bool) :
    mmc1ChrUnit c r high = (if high then r.chr1.toNat else r.chr0.toNat) % (2 * chrBankCount c) := by
  rw [mmc1ChrUnit, getLsbD_four, if_pos (decide_eq_true h), chrUnitMod]

theorem ppuRd_nametable {s : State} {a : BitVec 14} (h : 0x2000 ≤ a.toNat) :
    ppuRd s a = vramRead s (ntIndex (mirroring s) a.toNat) := by
  rw [ppuRd, if_neg (by omega)]

theorem ppuWr_nametable {s : State} {a : BitVec 14} {v : Byte} (h : 0x2000 ≤ a.toNat) :
    ppuWr s a v = vramWrite s (ntIndex (mirroring s) a.toNat) v := by
  rw [ppuWr, if_neg (by omega)]

/-- Variants A and C take the mode from the header (20_memory.md R114, R126). -/
theorem mirroring_of_not_mmc1 {s : State} (hm : ∀ r : Mmc1, s.mapper ≠ .mmc1 r) :
    mirroring s = if s.cart.vertical then .vertical else .horizontal := by
  unfold mirroring
  split
  · rfl
  · next r hr => exact absurd hr (hm r)
  · rfl

/-- Variant B takes the mode from control bits 1:0 (20_memory.md R117). -/
theorem mirroring_mmc1 {s : State} {r : Mmc1} (hm : s.mapper = .mmc1 r) :
    (r.mctrl.toNat % 4 = 0 → mirroring s = .singleLow) ∧ (r.mctrl.toNat % 4 = 1 → mirroring s = .singleHigh) ∧
      (r.mctrl.toNat % 4 = 2 → mirroring s = .vertical) ∧ (r.mctrl.toNat % 4 = 3 → mirroring s = .horizontal) := by
  refine ⟨fun h => ?_, fun h => ?_, fun h => ?_, fun h => ?_⟩ <;> simp only [mirroring, hm, h]

/-- The cell of a palette index: a multiple of 4 lies in the first 16 cells, any other index has its own
(20_memory.md R103). -/
theorem palIndex_eq (i : Nat) : palIndex i = if i % 4 = 0 then i % 16 else i % 32 := by
  have hall : ∀ j < 32, palIndex j = if j % 4 = 0 then j % 16 else j := by decide
  have hmod : palIndex i = palIndex (i % 32) := by simp [palIndex]
  rw [hmod, hall _ (Nat.mod_lt _ (by decide)), Nat.mod_mod_of_dvd i (by decide : 4 ∣ 32),
    Nat.mod_mod_of_dvd i (by decide : 16 ∣ 32)]

/-- Two indexes share a palette cell exactly when they are equal modulo 32 or aliases of a group's entry 0. -/
theorem palIndex_eq_palIndex_iff (i j : Nat) :
    palIndex j = palIndex i ↔ i % 32 = j % 32 ∨ (i % 4 = 0 ∧ i % 16 = j % 16) := by
  rw [palIndex_eq, palIndex_eq]
  split <;> split <;> omega

end Sys2Proof.Machine
end

section
/-! The statements of 20_memory.md about the CPU bus, the mapper, pattern memory, nametables and palette. -/

namespace Sys2Proof.Machine

/-- A byte written below $2000 is read at every mirror of its RAM cell (20_memory.md R84). -/
theorem busPeek_busWrite_ram {s : State} {a b : Addr} {v : Byte} (hwf : s.ram.wf unlistedByte Config.ramSize = true)
    (ha : busRegion a = .ram) (hb : busRegion b = .ram) :
    busPeek (busWrite s a v) b = if a.toNat % 2048 = b.toNat % 2048 then v else busPeek s b := by
  rw [busWrite_of_ram ha, busPeek_of_ram hb, busPeek_of_ram hb, ramRead, ramRead, ramWrite, State.setRam_ram,
    Memory.read_write hwf]
  simp only [eq_comm]

/-- Settles O29: below $2000 by the RAM cell both mirrors name, from $2000 on because the register number is all the
bus uses of the address. -/
theorem mirrors : Obligations.Mirrors := by
  refine ⟨fun s a b v hwf ha hb => ?_, fun s a v h h' => ?_⟩
  · have hra := busRegion_of_lt_2000 ha
    refine ⟨busPeek_of_ram hra, busTouch_of_ram hra, busPeek_busWrite_ram hwf hra (busRegion_of_lt_2000 hb), ?_⟩
    rw [busWrite_of_ram hra, ramWrite, State.setRam_ram]
  · have hra := busRegion_of_ppu h h'
    have hr : (BitVec.ofNat 16 (0x2000 + a.toNat % 8)).toNat = 0x2000 + a.toNat % 8 := by
      rw [BitVec.toNat_ofNat]
      omega
    have hrr : busRegion (BitVec.ofNat 16 (0x2000 + a.toNat % 8)) = .ppu :=
      busRegion_of_ppu (by omega) (by omega)
    have hreg : (0x2000 + a.toNat % 8) % 8 = a.toNat % 8 := by omega
    refine ⟨?_, ?_, ?_⟩
    · rw [busPeek_of_ppu hra, busPeek_of_ppu hrr, hr, hreg]
    · rw [busTouch_of_ppu hra, busTouch_of_ppu hrr, hr, hreg]
    · rw [busWrite_of_ppu hra, busWrite_of_ppu hrr, hr, hreg]

/-- Settles O32: each window reads the bank `prgWindow` names, by variant and, in variant B, by mode. -/
theorem prgWindows : Obligations.PrgWindows := by
  intro s a v bank last high
  refine ⟨fun ha => ⟨fun hm => ⟨?_, busWrite_nrom hm ha⟩, fun r hm => ⟨fun hmode => ?_, fun hmode => ?_,
    fun hmode => ?_⟩, fun n hm => ?_⟩, fun ha ha' => ⟨fun hoff => ?_, fun hon => ?_⟩⟩
  · rw [busPeek_prgWindow ha (prgWindow_nrom hm _)]
    simp only [bank, last, high, decide_eq_true_eq]
  · simpa [mmc1PrgBank_pair hmode] using busPeek_prgWindow ha (prgWindow_mmc1 hm _)
  · simpa [mmc1PrgBank_fixFirst hmode] using busPeek_prgWindow ha (prgWindow_mmc1 hm _)
  · simpa [mmc1PrgBank_fixLast hmode] using busPeek_prgWindow ha (prgWindow_mmc1 hm _)
  · have hw := prgWindow_uxrom hm (decide (0xC000 ≤ a.toNat))
    simp only [decide_eq_true_eq] at hw
    split
    · next hhigh => exact busPeek_prgWindow ha (hw.trans (if_pos hhigh))
    · next hhigh =>
      rw [if_neg hhigh] at hw
      split
      · next hn => exact busPeek_prgWindow ha (hw.trans (if_pos hn))
      · next hn => exact busPeek_prgWindow_none ha (hw.trans (if_neg hn))
  · have hoff := (prgRamEnabled_eq_false_iff s).2 hoff
    rw [busPeek_prgRam ha ha', busWrite_prgRam ha ha', hoff]
    exact ⟨rfl, rfl⟩
  · rw [← prgRamEnabled_eq_false_iff, Bool.not_eq_false] at hon
    rw [busPeek_prgRam ha ha', busWrite_prgRam ha ha', if_pos hon, if_pos hon]
    exact ⟨rfl, rfl⟩

/-- Settles O33: five serial writes by what each does to the shift register, variant C by the least width. -/
theorem bankSelectWrites : Obligations.BankSelectWrites := by
  refine ⟨?_, fun s r a v hm ha hv => ?_, fun s n a v hm ha h1 h32 => ?_⟩
  · intro s r a1 a2 a3 a4 a5 v1 v2 v3 v4 v5 hm hc ha1 ha2 ha3 ha4 ha5 hv1 hv2 hv3 hv4 hv5 val n
    rw [busWrite_mmc1 hm ha1, busWrite_mmc1 (State.setMapper_mapper ..) ha2, State.setMapper_setMapper,
      busWrite_mmc1 (State.setMapper_mapper ..) ha3, State.setMapper_setMapper,
      busWrite_mmc1 (State.setMapper_mapper ..) ha4, State.setMapper_setMapper,
      busWrite_mmc1 (State.setMapper_mapper ..) ha5, State.setMapper_setMapper,
      mmc1Serial_shift hv1 (by simp [hc]), mmc1Serial_shift hv2 (by simp [hc]), mmc1Serial_shift hv3 (by simp [hc]),
      mmc1Serial_shift hv4 (by simp [hc]), mmc1Serial_fifth ha5 hv5 (by simp [hc]), serialShift_five]
  · rw [busWrite_mmc1 hm ha, mmc1Serial_reset hv]
  · obtain ⟨hle, hcover, hleast⟩ := leastWidth_spec (fuel := 8) (k := 0) (n := s.cart.prgBanks) (by omega)
    refine ⟨_, hcover, fun j => hleast j (Nat.zero_le j), ?_⟩
    rw [busWrite_uxrom hm ha, uxromBank, and_lowMask_eq (by omega)]

/-- Settles O34: the cell is the one `chrCell` computes, by variant and by variant B's control bit 4. -/
theorem patternMemory : Obligations.PatternMemory := by
  intro s a v ha units high
  refine ⟨chrCell s a.toNat, ppuRd_pattern ha, ppuWr_pattern ha, fun hm => chrCell_of_not_mmc1 hm _, fun r hm =>
    ⟨fun hmode => ?_, fun hmode => ?_⟩⟩
  · rw [chrCell_mmc1 hm, mmc1ChrUnit_pair hmode]
    simp [units, high, chrBankCount, Config.chrRamBanks]
  · rw [chrCell_mmc1 hm, mmc1ChrUnit_single hmode]
    simp [units, high, chrBankCount, Config.chrRamBanks]

/-- Settles O35: the half is that of `ntIndex_eq`, the mode that of the variant. -/
theorem nametableMirroring : Obligations.NametableMirroring := by
  intro s a v ha table half
  have hcell : ntIndex (mirroring s) a.toNat = half * 1024 + a.toNat % 1024 := ntIndex_eq _ _
  refine ⟨?_, ?_, mirroring_of_not_mmc1, fun r => mirroring_mmc1⟩
  · rw [ppuRd_nametable ha, hcell]
  · rw [ppuWr_nametable ha, hcell]

/-- Settles O36: a write changes the one cell of its index, which exactly the listed indexes share. -/
theorem paletteAliases : Obligations.PaletteAliases := by
  intro p i j v hwf
  rw [palRead, palRead, palWrite, Memory.read_write hwf]
  simp only [palIndex_eq_palIndex_iff]

end Sys2Proof.Machine
end

section
/-! Frames and the shared forms of an instruction: what a form's outcome needs of its operation alone. -/

namespace Sys2Proof.Machine

/-- A change of no register and no flag, from the registers and the status word. -/
theorem onlyChanges_nothing {s t : State} (ha : t.cpu.a = s.cpu.a) (hx : t.cpu.x = s.cpu.x) (hy : t.cpu.y = s.cpu.y)
    (hs : t.cpu.s = s.cpu.s) (hp : t.cpu.p = s.cpu.p) : OnlyChanges [] [] s t :=
  ⟨fun r _ => by cases r <;> assumption, fun f _ => by rw [hp]⟩

theorem OnlyChanges.weaken {regs : List Reg} {flags : List Flag} {s t : State} (h : OnlyChanges [] [] s t) :
    OnlyChanges regs flags s t :=
  ⟨fun r _ => h.1 r List.not_mem_nil, fun f _ => h.2 f List.not_mem_nil⟩

theorem OnlyChanges.trans {regs : List Reg} {flags : List Flag} {s t u : State} (h : OnlyChanges regs flags s t)
    (k : OnlyChanges regs flags t u) : OnlyChanges regs flags s u :=
  ⟨fun r hr => (k.1 r hr).trans (h.1 r hr), fun f hf => (k.2 f hf).trans (h.2 f hf)⟩

theorem onlyChanges_setCyc (n : Nat) (s : State) : OnlyChanges [] [] s (s.setCyc n) :=
  onlyChanges_nothing rfl rfl rfl rfl rfl

theorem onlyChanges_addCyc (n : Nat) (s : State) : OnlyChanges [] [] s (s.addCyc n) := onlyChanges_setCyc _ s

/-- The state an operation starts in (40_cpu_engine.md R170, R186): the base pulses are charged, the scratch values
hold the address and the operand, and outside the CPU the machine is `u`. -/
def atOperand (s : State) (ea : Addr) (m : Byte) (u : State) (n : Nat) : State :=
  u.withCpu { s.cpu with cyc := n, addr := ea, fetched := m }

theorem onlyChanges_atOperand (s : State) (ea : Addr) (m : Byte) (u : State) (n : Nat) :
    OnlyChanges [] [] s (atOperand s ea m u n) := onlyChanges_nothing rfl rfl rfl rfl rfl

theorem fetchOperand_setAddr (s : State) (base : Nat) (ea : Addr) :
    fetchOperand ((s.setCyc base).setAddr ea) = atOperand s ea (busPeek s ea) (busTouch s ea) base := by
  obtain ⟨hcpu, hout⟩ := fetchOperand_spec ((s.setCyc base).setAddr ea)
  rw [State.eq_withCpu hout, hcpu, State.setAddr_cpu_addr, busTouch_setAddr, busTouch_setCyc]
  rfl

theorem runRead_uncrossed (base : Nat) (ea : Addr) (op : State → State) (s : State) :
    runRead base ea false op s = .next ((op (atOperand s ea (busPeek s ea) (busTouch s ea) base)).addCyc 0) := by
  rw [runRead, runOperand, fetchOperand_setAddr]
  rfl

theorem runRead_pageCrossed (base : Nat) (start ea : Addr) (op : State → State) (s : State) :
    runRead base ea (pageCrossed start ea) op s =
      .next ((op (atOperand s ea (busPeek s ea) (busTouch s ea) base)).addCyc (crossPulse start ea)) := by
  rw [runRead, runOperand, addCyc_cross, fetchOperand_setAddr]

/-- From `s`, operation `op` meets the claim `P` whatever the operand, also when `k` pulses are charged after it. -/
def OperandOp (s : State) (op : State → State) (P : OperandClaim) : Prop :=
  ∀ ea m u n k, P ea m u (n + k) ((op (atOperand s ea m u n)).addCyc k)

/-- A form begins with its opcode byte and `exec` runs it as `run` on state `s`. -/
def FormRuns {α : Type} (s : State) (form : Byte × (α → Instr)) (run : α → Result) : Prop :=
  ∀ o, (encode (form.2 o)).head? = some form.1 ∧ exec (form.2 o) s = run o

section Forms

variable {α : Type} {s : State} {op : State → State} {P : OperandClaim} {ea : α → Addr} {base : Nat}

theorem OperandOp.immForm {form : Byte × (Byte → Instr)} (h : OperandOp s op P)
    (hrun : FormRuns s form fun d => runImmediate 2 d op s) : ImmForm s form P :=
  fun d => ⟨(hrun d).1, _, (hrun d).2, h (s.cpu.pc - 1#16) d s 2 0⟩

variable {form : Byte × (α → Instr)}

/-- A mode of a read instruction that reports no page cross. -/
theorem OperandOp.memForm (h : OperandOp s op P) (hrun : FormRuns s form fun o => runRead base (ea o) false op s) :
    MemForm s form ea (fun _ => base) P :=
  fun o => ⟨(hrun o).1, _, (hrun o).2.trans (runRead_uncrossed ..), h _ _ _ base 0⟩

/-- A mode of a read instruction that reports whether the effective address left the page of its base. -/
theorem OperandOp.memForm_crossing {start : α → Addr} (h : OperandOp s op P)
    (hrun : FormRuns s form fun o => runRead base (ea o) (pageCrossed (start o) (ea o)) op s) :
    MemForm s form ea (fun o => base + crossPulse (start o) (ea o)) P :=
  fun o => ⟨(hrun o).1, _, (hrun o).2.trans (runRead_pageCrossed ..), h ..⟩

/-- The eight forms of an accumulator read instruction are one operation run in the eight modes. -/
theorem OperandOp.eightForms {imm zp0 zpx izx izy : Byte × (Byte → Instr)} {abs abx aby : Byte × (Addr → Instr)}
    (h : OperandOp s op P)
    (himm : FormRuns s imm fun d => runImmediate 2 d op s)
    (hzp0 : FormRuns s zp0 fun z => runRead 3 (eaZp0 z) false op s)
    (hzpx : FormRuns s zpx fun z => runRead 4 (eaZpx s z) false op s)
    (habs : FormRuns s abs fun a => runRead 4 (eaAbs a) false op s)
    (habx : FormRuns s abx fun a => runRead 4 (eaAbx s a) (pageCrossed a (eaAbx s a)) op s)
    (haby : FormRuns s aby fun a => runRead 4 (eaAby s a) (pageCrossed a (eaAby s a)) op s)
    (hizx : FormRuns s izx fun z => runRead 6 (eaIzx s z) false op s)
    (hizy : FormRuns s izy fun z => runRead 5 (eaIzy s z) (pageCrossed (zeroPageWord s z) (eaIzy s z)) op s) :
    EightForms s imm zp0 zpx abs abx aby izx izy P :=
  ⟨h.immForm himm, h.memForm hzp0, h.memForm hzpx, h.memForm habs, h.memForm_crossing habx, h.memForm_crossing haby,
    h.memForm hizx, h.memForm_crossing hizy⟩

/-- A form that makes one bus write of `v` and no operand read. -/
theorem storeForm_of_busWrite {v : Byte}
    (hrun : FormRuns s form fun o => .next (busWrite ((s.setCyc base).setAddr (ea o)) (ea o) v)) :
    StoreForm s form ea base v := by
  intro o
  obtain ⟨hhead, hexec⟩ := hrun o
  refine ⟨hhead, _, hexec, onlyChanges_nothing ?_ ?_ ?_ ?_ ?_, ?_, busWrite_withCpu_out _ s (ea o) v rfl, ?_, ?_⟩ <;>
    simp

end Forms

end Sys2Proof.Machine
end

section
/-! A register load with `SetZN`, the one operation behind the loads and all transfers but `TXS`
(41_load_store_transfer.md R201 to R203, R207 to R211). -/

namespace Sys2Proof.Machine

/-- From `s` to `t`, register `r` is loaded with `v`, `Z` and `N` are set from it, and nothing else changes. -/
structure Loads (r : Reg) (v : Byte) (s t : State) : Prop where
  value : r.value t.cpu = v
  others : ∀ q, q ≠ r → q.value t.cpu = q.value s.cpu
  status : t.cpu.p = putZN v s.cpu.p
  pc : t.cpu.pc = s.cpu.pc
  pulses : Pulses s.cpu.cyc s t
  outside : OutsideIs s t

theorem loads_loadA (v : Byte) (s : State) : Loads .a v s (loadA v s) where
  value := rfl
  others
    | .a, hq => absurd rfl hq
    | .x, _ | .y, _ | .s, _ => rfl
  status := rfl
  pc := rfl
  pulses := ⟨rfl, rfl⟩
  outside := OutsideIs.refl s

theorem loads_loadX (v : Byte) (s : State) : Loads .x v s (loadX v s) where
  value := rfl
  others
    | .x, hq => absurd rfl hq
    | .a, _ | .y, _ | .s, _ => rfl
  status := rfl
  pc := rfl
  pulses := ⟨rfl, rfl⟩
  outside := OutsideIs.refl s

theorem loads_loadY (v : Byte) (s : State) : Loads .y v s (loadY v s) where
  value := rfl
  others
    | .y, hq => absurd rfl hq
    | .a, _ | .x, _ | .s, _ => rfl
  status := rfl
  pc := rfl
  pulses := ⟨rfl, rfl⟩
  outside := OutsideIs.refl s

variable {r : Reg} {v : Byte} {s t : State}

theorem Loads.znOf (h : Loads r v s t) : ZNOf v t := by
  rw [znOf_iff, h.status]
  exact ⟨flagZ_putZN .., flagN_putZN ..⟩

theorem Loads.onlyChanges (h : Loads r v s t) : OnlyChanges [r] [.z, .n] s t := by
  refine ⟨fun q hq => h.others q (by simpa using hq), fun f hf => ?_⟩
  rw [h.status]
  cases f <;> simp_all [Flag.value]

/-- A read instruction whose operation loads `r` with `f` of the operand. -/
theorem operandOp_of_loads {op : State → State} (f : Byte → Byte)
    (hop : ∀ ea m u n, Loads r (f m) (atOperand s ea m u n) (op (atOperand s ea m u n))) :
    OperandOp s op (ReadOutcome s [r] [.z, .n] fun m t => r.value t.cpu = f m ∧ ZNOf (f m) t) := by
  intro ea m u n k
  have h := hop ea m u n
  have hsame := onlyChanges_addCyc k (op (atOperand s ea m u n))
  have hframe := ((onlyChanges_atOperand s ea m u n).weaken.trans h.onlyChanges).trans hsame.weaken
  exact ⟨⟨(hsame.1 r List.not_mem_nil).trans h.value, h.znOf⟩, hframe, h.pc, h.outside,
    congrArg (· + k) h.pulses.1, h.pulses.2⟩

/-- An implied instruction whose operation loads `r` with `v`. -/
theorem impliedForm_of_loads {opcode : Byte} {i : Instr} {n : Nat} {op : State → State}
    (hop : Loads r v (s.setCyc n) (op (s.setCyc n)))
    (hi : (encode i).head? = some opcode ∧ exec i s = runImplied n op s) :
    ImpliedForm s opcode i n [r] [.z, .n] fun t => r.value t.cpu = v ∧ ZNOf v t :=
  ⟨hi.1, _, hi.2, ⟨hop.value, hop.znOf⟩, (onlyChanges_setCyc n s).weaken.trans hop.onlyChanges, hop.pc, hop.outside,
    hop.pulses⟩

end Sys2Proof.Machine
end

section
/-! The statements of 41_load_store_transfer.md: loads, stores, transfers. -/

namespace Sys2Proof.Machine

/-- Settles O10: every form runs one of three load operations on its operand. -/
theorem loadResults : Obligations.LoadResults := by
  intro s
  have hlda := operandOp_of_loads (s := s) (op := opLda) id fun _ m _ _ => loads_loadA m _
  have hldx := operandOp_of_loads (s := s) (op := opLdx) id fun _ m _ _ => loads_loadX m _
  have hldy := operandOp_of_loads (s := s) (op := opLdy) id fun _ m _ _ => loads_loadY m _
  refine ⟨hlda.eightForms ?_ ?_ ?_ ?_ ?_ ?_ ?_ ?_,
    ⟨hldx.immForm ?_, hldx.memForm ?_, hldx.memForm ?_, hldx.memForm ?_, hldx.memForm_crossing ?_⟩,
    hldy.immForm ?_, hldy.memForm ?_, hldy.memForm ?_, hldy.memForm ?_, hldy.memForm_crossing ?_⟩
  all_goals exact fun _ => ⟨rfl, rfl⟩

/-- Settles O11: every form is one bus write of its register at its effective address. -/
theorem storeResults : Obligations.StoreResults := by
  intro s
  refine ⟨?_, ?_, ?_, ?_, ?_, ?_, ?_, ?_, ?_, ?_, ?_, ?_, ?_⟩ <;>
    exact storeForm_of_busWrite fun _ => ⟨rfl, rfl⟩

/-- Settles O12: five transfers are loads of a register from a register; `TXS` writes `S` alone. -/
theorem transferResults : Obligations.TransferResults := by
  intro s
  refine ⟨?_, ?_, ?_, ?_, ?_, ?_⟩
  · exact impliedForm_of_loads (op := opTax) (loads_loadX ..) ⟨rfl, rfl⟩
  · exact impliedForm_of_loads (op := opTay) (loads_loadY ..) ⟨rfl, rfl⟩
  · exact impliedForm_of_loads (op := opTxa) (loads_loadA ..) ⟨rfl, rfl⟩
  · exact impliedForm_of_loads (op := opTya) (loads_loadA ..) ⟨rfl, rfl⟩
  · exact impliedForm_of_loads (op := opTsx) (loads_loadX ..) ⟨rfl, rfl⟩
  · have hframe : OnlyChanges [.s] [] s (opTxs (s.setCyc 2)) :=
      ⟨fun | .s, hs => absurd (List.mem_singleton_self _) hs
           | .a, _ | .x, _ | .y, _ => rfl, fun _ _ => rfl⟩
    exact ⟨rfl, _, rfl, rfl, hframe, rfl, OutsideIs.refl s, rfl, rfl⟩

end Sys2Proof.Machine
end

section
/-! Operations that end in a write of the status word: those that change the CPU alone, and the read-modify-write
operations, which make one bus write before it. -/

namespace Sys2Proof.Machine

/-- The function `g` of the status word changes no flag but `flags`. -/
def WritesFlags (flags : List Flag) (g : Byte → Byte) : Prop := ∀ p f, f ∉ flags → f.value (g p) = f.value p

theorem writesFlags_putZN (v : Byte) : WritesFlags [.z, .n] (putZN v) := by
  intro p f hf
  cases f <;> simp_all [Flag.value]

theorem znOf_of_putZN {v p : Byte} {t : State} (h : t.cpu.p = putZN v p) : ZNOf v t := by
  rw [znOf_iff, h]
  exact ⟨flagZ_putZN .., flagN_putZN ..⟩

theorem WritesFlags.onlyChanges_mapP {flags : List Flag} {g : Byte → Byte} (h : WritesFlags flags g) (s : State) :
    OnlyChanges [] flags s (s.mapP g) :=
  ⟨fun r _ => by cases r <;> rfl, h s.cpu.p⟩

/-- From `s` to `t` the CPU changes only `regs` and `flags`: `PC`, the pulses and everything outside it stay. -/
structure CpuOnly (regs : List Reg) (flags : List Flag) (s t : State) : Prop where
  onlyChanges : OnlyChanges regs flags s t
  pc : t.cpu.pc = s.cpu.pc
  pulses : Pulses s.cpu.cyc s t
  outside : OutsideIs s t

theorem WritesFlags.cpuOnly_mapP {flags : List Flag} {g : Byte → Byte} (h : WritesFlags flags g) (s : State) :
    CpuOnly [] flags s (s.mapP g) where
  onlyChanges := h.onlyChanges_mapP s
  pc := rfl
  pulses := ⟨rfl, rfl⟩
  outside := OutsideIs.refl s

theorem onlyChanges_busWrite (s : State) (a : Addr) (v : Byte) : OnlyChanges [] [] s (busWrite s a v) := by
  apply onlyChanges_nothing <;> simp

section Operations

variable {s : State} {op : State → State} {regs : List Reg} {flags : List Flag} {R : Byte → State → Prop}

/-- A read instruction whose operation changes the CPU alone. -/
theorem operandOp_of_cpuOnly
    (hop : ∀ ea m u n, CpuOnly regs flags (atOperand s ea m u n) (op (atOperand s ea m u n)))
    (hR : ∀ ea m u n k, R m ((op (atOperand s ea m u n)).addCyc k)) :
    OperandOp s op (ReadOutcome s regs flags R) := by
  intro ea m u n k
  obtain ⟨honly, hpc, ⟨hcyc, htotal⟩, hout⟩ := hop ea m u n
  have hframe := ((onlyChanges_atOperand s ea m u n).weaken.trans honly).trans (onlyChanges_addCyc k _).weaken
  exact ⟨hR ea m u n k, hframe, hpc, hout, congrArg (· + k) hcyc, htotal⟩

theorem runModify_eq (base : Nat) (ea : Addr) (op : State → State) (s : State) :
    runModify base ea op s = .next (op (atOperand s ea (busPeek s ea) (busTouch s ea) base)) :=
  runRead_uncrossed base ea op s

/-- On the operand `m` at `ea`, operation `op` makes one bus write of `f m` at `ea` and rewrites `P` by `g m`
(42_arith_logic.md R230, 43_shift_rotate.md R250). -/
def ModifyOp (s : State) (op : State → State) (f : Byte → Byte) (g : Byte → Byte → Byte) : Prop :=
  ∀ ea m u n, op (atOperand s ea m u n) = (busWrite (atOperand s ea m u n) ea (f m)).mapP (g m)

variable {f : Byte → Byte} {g : Byte → Byte → Byte}

theorem ModifyOp.outcome (h : ModifyOp s op f g) (hg : ∀ m, WritesFlags flags (g m))
    (hR : ∀ m t, t.cpu.p = g m s.cpu.p → R m t) (ea : Addr) (m : Byte) {u : State} (n : Nat)
    (hu : u.cpu.total = s.cpu.total) :
    ModifyOutcome s f flags R ea m u n (op (atOperand s ea m u n)) := by
  have hframe := ((onlyChanges_atOperand s ea m u n).trans (onlyChanges_busWrite _ ea (f m))).weaken.trans
    ((hg m).onlyChanges_mapP _)
  rw [h]
  exact ⟨hR m _ (congrArg (g m) (busWrite_cpu_p ..)), hframe, busWrite_cpu_pc ..,
    busWrite_withCpu_out _ u ea (f m) hu.symm, busWrite_cpu_cyc .., busWrite_cpu_total ..⟩

theorem ModifyOp.memForm {α : Type} {form : Byte × (α → Instr)} {ea : α → Addr} {base : Nat}
    (h : ModifyOp s op f g) (hg : ∀ m, WritesFlags flags (g m)) (hR : ∀ m t, t.cpu.p = g m s.cpu.p → R m t)
    (hrun : FormRuns s form fun o => runModify base (ea o) op s) :
    MemForm s form ea (fun _ => base) (ModifyOutcome s f flags R) := by
  intro o
  obtain ⟨hhead, hexec⟩ := hrun o
  exact ⟨hhead, _, hexec.trans (runModify_eq ..), h.outcome hg hR _ _ base (by rw [busTouch_cpu])⟩

/-- The four forms of a read-modify-write instruction are one operation run in the four modes. -/
theorem ModifyOp.modifyForms {zp0 zpx : Byte × (Byte → Instr)} {abs abx : Byte × (Addr → Instr)}
    (h : ModifyOp s op f g) (hg : ∀ m, WritesFlags flags (g m)) (hR : ∀ m t, t.cpu.p = g m s.cpu.p → R m t)
    (hzp0 : FormRuns s zp0 fun z => runModify 5 (eaZp0 z) op s)
    (hzpx : FormRuns s zpx fun z => runModify 6 (eaZpx s z) op s)
    (habs : FormRuns s abs fun a => runModify 6 (eaAbs a) op s)
    (habx : FormRuns s abx fun a => runModify 7 (eaAbx s a) op s) :
    ModifyForms s zp0 zpx abs abx (ModifyOutcome s f flags R) :=
  ⟨h.memForm hg hR hzp0, h.memForm hg hR hzpx, h.memForm hg hR habs, h.memForm hg hR habx⟩

end Operations

end Sys2Proof.Machine
end

section
/-! The flags after the three flag computations of 42_arith_logic.md (R221, R226, R229) and the operations that make
them. -/

namespace Sys2Proof.Machine

@[simp] theorem flagC_adcStatus (a m p : Byte) : flagC (adcStatus a m p) = sumCarry a m (flagC p) := by
  simp [adcStatus]

@[simp] theorem flagV_adcStatus (a m p : Byte) :
    flagV (adcStatus a m p) = sumOverflow a m (sumByte a m (flagC p)) := by
  simp [adcStatus]

theorem writesFlags_adcStatus (a m : Byte) : WritesFlags [.c, .v, .z, .n] (adcStatus a m) := by
  intro p f hf
  cases f <;> simp_all [Flag.value, adcStatus]

@[simp] theorem flagC_compareStatus (r m p : Byte) : flagC (compareStatus r m p) = decide (m.toNat ≤ r.toNat) := by
  simp [compareStatus]

theorem writesFlags_compareStatus (r m : Byte) : WritesFlags [.c, .z, .n] (compareStatus r m) := by
  intro p f hf
  cases f <;> simp_all [Flag.value, compareStatus]

@[simp] theorem flagZ_bitStatus (a m p : Byte) : flagZ (bitStatus a m p) = decide (a &&& m = 0#8) := by
  simp [bitStatus]

@[simp] theorem flagN_bitStatus (a m p : Byte) : flagN (bitStatus a m p) = m.getLsbD 7 := by
  simp [bitStatus]

@[simp] theorem flagV_bitStatus (a m p : Byte) : flagV (bitStatus a m p) = m.getLsbD 6 := by
  simp [bitStatus]

theorem writesFlags_bitStatus (a m : Byte) : WritesFlags [.z, .n, .v] (bitStatus a m) := by
  intro p f hf
  cases f <;> simp_all [Flag.value, bitStatus]

theorem cpuOnly_addWithCarry (m : Byte) (s : State) : CpuOnly [.a] [.c, .v, .z, .n] s (addWithCarry m s) where
  onlyChanges :=
    ⟨fun | .a, ha => absurd (List.mem_singleton_self _) ha
         | .x, _ | .y, _ | .s, _ => rfl, writesFlags_adcStatus s.cpu.a m s.cpu.p⟩
  pc := rfl
  pulses := ⟨rfl, rfl⟩
  outside := OutsideIs.refl s

/-- A compare of `r`, a register of `s`, with the operand (R226 to R228). -/
theorem operandOp_of_compare {s : State} {op : State → State} (r : Byte)
    (hop : ∀ ea m u n, op (atOperand s ea m u n) = (atOperand s ea m u n).mapP (compareStatus r m)) :
    OperandOp s op (ReadOutcome s [] [.c, .z, .n] fun m t =>
      flagC t.cpu.p = decide (m.toNat ≤ r.toNat) ∧ ZNOf (r - m) t) := by
  refine operandOp_of_cpuOnly (fun ea m u n => ?_) fun ea m u n k => ?_ <;> rw [hop]
  · exact (writesFlags_compareStatus r m).cpuOnly_mapP _
  · exact ⟨flagC_compareStatus .., znOf_of_putZN rfl⟩

end Sys2Proof.Machine
end

section
/-! The statements of 42_arith_logic.md: sums, logic, compares, increments. -/

namespace Sys2Proof.Machine

/-- Settles O13: the model's nine-bit sum is the sum of the naturals. -/
theorem adcResults : Obligations.AdcResults := by
  intro s
  refine (operandOp_of_cpuOnly (op := opAdc) (fun _ m _ _ => cpuOnly_addWithCarry m _) ?_).eightForms
    ?_ ?_ ?_ ?_ ?_ ?_ ?_ ?_
  · intro ea m u n k
    exact ⟨sumByte_eq .., (flagC_adcStatus ..).trans (sumCarry_eq ..), (flagV_adcStatus ..).trans (sumOverflow_eq ..),
      znOf_of_putZN rfl⟩
  all_goals exact fun _ => ⟨rfl, rfl⟩

/-- Settles O14: the sum with the complement of the operand is the difference with borrow. -/
theorem sbcResults : Obligations.SbcResults := by
  intro s
  refine (operandOp_of_cpuOnly (op := opSbc) (fun _ m _ _ => cpuOnly_addWithCarry (m ^^^ 0xFF#8) _) ?_).eightForms
    ?_ ?_ ?_ ?_ ?_ ?_ ?_ ?_
  · intro ea m u n k
    exact ⟨sumByte_compl .., (flagC_adcStatus ..).trans (sumCarry_compl ..),
      (flagV_adcStatus ..).trans (sumOverflow_compl ..), znOf_of_putZN rfl⟩
  all_goals exact fun _ => ⟨rfl, rfl⟩

/-- Settles O15: each is a load of `A` with the bitwise result. -/
theorem logicResults : Obligations.LogicResults := by
  intro s
  have hand := operandOp_of_loads (s := s) (op := opAnd) (s.cpu.a &&& ·) fun _ m _ _ => loads_loadA (s.cpu.a &&& m) _
  have hora := operandOp_of_loads (s := s) (op := opOra) (s.cpu.a ||| ·) fun _ m _ _ => loads_loadA (s.cpu.a ||| m) _
  have heor := operandOp_of_loads (s := s) (op := opEor) (s.cpu.a ^^^ ·) fun _ m _ _ => loads_loadA (s.cpu.a ^^^ m) _
  refine ⟨hand.eightForms ?_ ?_ ?_ ?_ ?_ ?_ ?_ ?_, hora.eightForms ?_ ?_ ?_ ?_ ?_ ?_ ?_ ?_,
    heor.eightForms ?_ ?_ ?_ ?_ ?_ ?_ ?_ ?_⟩
  all_goals exact fun _ => ⟨rfl, rfl⟩

/-- Settles O16: the compares are one operation on three registers, and `BIT` writes `P` alone. -/
theorem compareAndBitResults : Obligations.CompareAndBitResults := by
  intro s
  have hcmp := operandOp_of_compare (s := s) (op := opCmp) s.cpu.a fun _ _ _ _ => rfl
  have hcpx := operandOp_of_compare (s := s) (op := opCpx) s.cpu.x fun _ _ _ _ => rfl
  have hcpy := operandOp_of_compare (s := s) (op := opCpy) s.cpu.y fun _ _ _ _ => rfl
  have hbit : OperandOp s opBit (ReadOutcome s [] [.z, .n, .v] fun m t =>
      flagZ t.cpu.p = decide (s.cpu.a &&& m = 0#8) ∧ flagN t.cpu.p = m.getLsbD 7 ∧ flagV t.cpu.p = m.getLsbD 6) :=
    operandOp_of_cpuOnly (fun _ m _ _ => (writesFlags_bitStatus s.cpu.a m).cpuOnly_mapP _)
      fun _ _ _ _ _ => ⟨flagZ_bitStatus .., flagN_bitStatus .., flagV_bitStatus ..⟩
  refine ⟨⟨hcmp.eightForms ?_ ?_ ?_ ?_ ?_ ?_ ?_ ?_, hcpx.immForm ?_, hcpx.memForm ?_, hcpx.memForm ?_,
    hcpy.immForm ?_, hcpy.memForm ?_, hcpy.memForm ?_⟩, hbit.memForm ?_, hbit.memForm ?_⟩
  all_goals exact fun _ => ⟨rfl, rfl⟩

/-- Settles O17: `INC` and `DEC` are one bus write and `SetZN`; the register forms are loads. -/
theorem incrementResults : Obligations.IncrementResults := by
  intro s
  have hinc : ModifyOp s opInc (· + 1#8) fun m => putZN (m + 1#8) := fun _ _ _ _ => rfl
  have hdec : ModifyOp s opDec (· - 1#8) fun m => putZN (m - 1#8) := fun _ _ _ _ => rfl
  refine ⟨hinc.modifyForms (fun _ => writesFlags_putZN _) (fun _ _ => znOf_of_putZN) ?_ ?_ ?_ ?_,
    hdec.modifyForms (fun _ => writesFlags_putZN _) (fun _ _ => znOf_of_putZN) ?_ ?_ ?_ ?_,
    impliedForm_of_loads (op := opInx) (loads_loadX ..) ⟨rfl, rfl⟩,
    impliedForm_of_loads (op := opIny) (loads_loadY ..) ⟨rfl, rfl⟩,
    impliedForm_of_loads (op := opDex) (loads_loadX ..) ⟨rfl, rfl⟩,
    impliedForm_of_loads (op := opDey) (loads_loadY ..) ⟨rfl, rfl⟩⟩
  all_goals exact fun _ => ⟨rfl, rfl⟩

end Sys2Proof.Machine
end

section
/-! Shifts (43_shift_rotate.md R250): the four shift functions as arithmetic of natural numbers, the flags after a shift,
and what a shift of `A` and one of memory do. The first lemma is about every implied instruction. -/

namespace Sys2Proof.Machine

/-- An implied instruction whose operation changes the CPU alone. -/
theorem impliedForm_of_cpuOnly {s : State} {opcode : Byte} {i : Instr} {n : Nat} {op : State → State}
    {regs : List Reg} {flags : List Flag} {P : State → Prop}
    (hop : CpuOnly regs flags (s.setCyc n) (op (s.setCyc n))) (hP : P (op (s.setCyc n)))
    (hi : (encode i).head? = some opcode ∧ exec i s = runImplied n op s) :
    ImpliedForm s opcode i n regs flags P :=
  ⟨hi.1, _, hi.2, hP, (onlyChanges_setCyc n s).weaken.trans hop.onlyChanges, hop.pc, hop.outside, hop.pulses⟩

/-- `shift` moves bit `out` of its operand into the carry and results in `f` of it, when `c` is the carry in. -/
def ShiftsAs (shift : Byte → Bool → Bool × Byte) (c : Bool) (out : Nat) (f : Byte → Byte) : Prop :=
  ∀ m, shift m c = (m.getLsbD out, f m)

theorem shiftsAs_shiftAsl (c : Bool) : ShiftsAs shiftAsl c 7 fun m => BitVec.ofNat 8 (2 * m.toNat) :=
  fun m => congrArg (m.getLsbD 7, ·) (shiftLeft_one_eq m)

theorem shiftsAs_shiftLsr (c : Bool) : ShiftsAs shiftLsr c 0 fun m => BitVec.ofNat 8 (m.toNat / 2) :=
  fun m => congrArg (m.getLsbD 0, ·) (shiftRight_one_eq m)

theorem shiftsAs_shiftRol (c : Bool) :
    ShiftsAs shiftRol c 7 fun m => BitVec.ofNat 8 (2 * m.toNat + if c then 1 else 0) :=
  fun m => congrArg (m.getLsbD 7, ·) (rol_eq m c)

theorem shiftsAs_shiftRor (c : Bool) :
    ShiftsAs shiftRor c 0 fun m => BitVec.ofNat 8 (m.toNat / 2 + 128 * if c then 1 else 0) :=
  fun m => congrArg (m.getLsbD 0, ·) (ror_eq m c)

@[simp] theorem flagC_shiftStatus (r : Bool × Byte) (p : Byte) : flagC (shiftStatus r p) = r.1 := by
  simp [shiftStatus]

theorem writesFlags_shiftStatus (r : Bool × Byte) : WritesFlags [.c, .z, .n] (shiftStatus r) := by
  intro p f hf
  cases f <;> simp_all [Flag.value, shiftStatus]

theorem cpuOnly_shiftAcc (shift : Byte → Bool → Bool × Byte) (s : State) :
    CpuOnly [.a] [.c, .z, .n] s (shiftAcc shift s) where
  onlyChanges :=
    ⟨fun | .a, ha => absurd (List.mem_singleton_self _) ha
         | .x, _ | .y, _ | .s, _ => rfl, writesFlags_shiftStatus (shift s.cpu.a (flagC s.cpu.p)) s.cpu.p⟩
  pc := rfl
  pulses := ⟨rfl, rfl⟩
  outside := OutsideIs.refl s

variable {s : State} {shift : Byte → Bool → Bool × Byte} {out : Nat} {f : Byte → Byte}

/-- A shift in accumulator mode. -/
theorem ShiftsAs.impliedForm {opcode : Byte} {i : Instr} {n : Nat} (h : ShiftsAs shift (flagC s.cpu.p) out f)
    (hi : (encode i).head? = some opcode ∧ exec i s = runImplied n (shiftAcc shift) s) :
    ImpliedForm s opcode i n [.a] [.c, .z, .n] fun t =>
      flagC t.cpu.p = s.cpu.a.getLsbD out ∧ t.cpu.a = f s.cpu.a ∧ ZNOf (f s.cpu.a) t := by
  have ha : (shift s.cpu.a (flagC s.cpu.p)).2 = f s.cpu.a := congrArg Prod.snd (h s.cpu.a)
  refine impliedForm_of_cpuOnly (cpuOnly_shiftAcc shift _) ⟨?_, ha, ?_⟩ hi
  · exact (flagC_shiftStatus ..).trans (congrArg Prod.fst (h s.cpu.a))
  · exact ha ▸ znOf_of_putZN rfl

theorem shiftMem_atOperand (shift : Byte → Bool → Bool × Byte) (s : State) (ea : Addr) (m : Byte) (u : State)
    (n : Nat) : shiftMem shift (atOperand s ea m u n) =
      (busWrite (atOperand s ea m u n) ea (shift m (flagC s.cpu.p)).2).mapP
        (shiftStatus (shift m (flagC s.cpu.p))) := rfl

theorem ShiftsAs.modifyOp (h : ShiftsAs shift (flagC s.cpu.p) out f) :
    ModifyOp s (shiftMem shift) f fun m => shiftStatus (m.getLsbD out, f m) := by
  intro ea m u n
  rw [shiftMem_atOperand, h m]

/-- The four memory forms of a shift. -/
theorem ShiftsAs.modifyForms {zp0 zpx : Byte × (Byte → Instr)} {abs abx : Byte × (Addr → Instr)}
    (h : ShiftsAs shift (flagC s.cpu.p) out f)
    (hzp0 : FormRuns s zp0 fun z => runModify 5 (eaZp0 z) (shiftMem shift) s)
    (hzpx : FormRuns s zpx fun z => runModify 6 (eaZpx s z) (shiftMem shift) s)
    (habs : FormRuns s abs fun a => runModify 6 (eaAbs a) (shiftMem shift) s)
    (habx : FormRuns s abx fun a => runModify 7 (eaAbx s a) (shiftMem shift) s) :
    ModifyForms s zp0 zpx abs abx (ModifyOutcome s f [.c, .z, .n] fun m t =>
      flagC t.cpu.p = m.getLsbD out ∧ ZNOf (f m) t) :=
  h.modifyOp.modifyForms (fun _ => writesFlags_shiftStatus _)
    (fun _ _ hp => ⟨hp ▸ flagC_shiftStatus .., znOf_of_putZN hp⟩) hzp0 hzpx habs habx

end Sys2Proof.Machine
end

section
/-! The statement of 43_shift_rotate.md. -/

namespace Sys2Proof.Machine

/-- Settles O18: each of the four shifts is one function, run on `A` and on memory. -/
theorem shiftResults : Obligations.ShiftResults := by
  intro s
  have hasl := shiftsAs_shiftAsl (flagC s.cpu.p)
  have hlsr := shiftsAs_shiftLsr (flagC s.cpu.p)
  have hrol := shiftsAs_shiftRol (flagC s.cpu.p)
  have hror := shiftsAs_shiftRor (flagC s.cpu.p)
  refine ⟨hasl.impliedForm ⟨rfl, rfl⟩, hlsr.impliedForm ⟨rfl, rfl⟩, hrol.impliedForm ⟨rfl, rfl⟩,
    hror.impliedForm ⟨rfl, rfl⟩, hasl.modifyForms ?_ ?_ ?_ ?_, hlsr.modifyForms ?_ ?_ ?_ ?_,
    hrol.modifyForms ?_ ?_ ?_ ?_, hror.modifyForms ?_ ?_ ?_ ?_⟩
  all_goals exact fun _ => ⟨rfl, rfl⟩

end Sys2Proof.Machine
end

section
/-! Control flow (44_control_flow.md): the pointer of an indirect jump, the status a `BRK` pushes, and the operations of
the jumps, the subroutine calls, the exception instructions and the branches, each as what it leaves of the state. -/

namespace Sys2Proof.Machine

/-- A change of `S` and of no other register. -/
theorem onlyChanges_stackPointer {flags : List Flag} {s t : State} (ha : t.cpu.a = s.cpu.a) (hx : t.cpu.x = s.cpu.x)
    (hy : t.cpu.y = s.cpu.y) (hp : ∀ f, f ∉ flags → f.value t.cpu.p = f.value s.cpu.p) :
    OnlyChanges [.s] flags s t :=
  ⟨fun | .s, hs => absurd (List.mem_singleton_self _) hs
       | .a, _ => ha
       | .x, _ => hx
       | .y, _ => hy, hp⟩

theorem writesFlags_putI (b : Bool) : WritesFlags [.i] (putI b) := by
  intro p f hf
  cases f <;> simp_all [Flag.value]

/-- `BRK` pushes the status with `B` and `U` set, as a program's push does. -/
theorem pushedByEntry_true (p : Byte) : pushedByEntry true p = p ||| 0x30#8 := by
  apply byte_ext_flags
  intro f
  cases f <;> simp [Flag.value, pushedByEntry, flagC, flagZ, flagI, flagD, flagB, flagU, flagV, flagN]

/-- The start of a pointer's own page, from a pointer at its end: the two bytes of the mask act on one byte each. -/
theorem word16_FF_and_FF00 (h : Byte) : word16 h 0xFF#8 &&& 0xFF00#16 = word16 h 0xFF#8 - 255#16 := by
  have hmask : word16 h 0xFF#8 &&& 0xFF00#16 = word16 h 0x00#8 := by
    rw [word16, show (0xFF00#16 : Addr) = 0xFF#8 ++ 0x00#8 from rfl, BitVec.and_append,
      show (0xFF#8 : Byte) = BitVec.allOnes 8 from rfl, BitVec.and_allOnes]
    rfl
  have hlt := h.isLt
  rw [hmask]
  apply BitVec.eq_of_toNat_eq
  rw [BitVec.toNat_sub, word16_toNat, word16_toNat]
  simp only [BitVec.toNat_ofNat]
  omega

theorem loByte_eq_FF_iff (a : Addr) : loByte a = 0xFF#8 ↔ a.toNat % 256 = 255 := by
  rw [← BitVec.toNat_inj, loByte, BitVec.extractLsb'_toNat]
  rfl

/-- The second address of an indirect jump's pointer (40_cpu_engine.md R182) as arithmetic. -/
theorem indSecond_eq (ptr : Addr) :
    indSecond ptr = if ptr.toNat % 256 = 255 then ptr - 255#16 else ptr + 1#16 := by
  rw [indSecond]
  by_cases hlo : loByte ptr = 0xFF#8
  · have hptr := word16_FF_and_FF00 (hiByte ptr)
    rw [← hlo, word16_bytes] at hptr
    rw [if_pos hlo, if_pos ((loByte_eq_FF_iff ptr).1 hlo), hptr]
  · rw [if_neg hlo, if_neg (mt (loByte_eq_FF_iff ptr).2 hlo)]

/-- The two pointer reads leave the CPU alone. -/
theorem readIndirect_cpu (s : State) (ptr : Addr) : (readIndirect s ptr).2.cpu = s.cpu :=
  (busTouch_cpu ..).trans (busTouch_cpu ..)

/-! ### The operations -/

/-- A jump to `a` in the state `u` the mode left: `PC` and the pulses alone. -/
theorem opJmp_outcome {s u : State} (n : Nat) (a : Addr) (hu : u.cpu = s.cpu) :
    let t := opJmp ((u.setCyc n).setAddr a)
    t.cpu.pc = a ∧ OnlyChanges [] [] s t ∧ OutsideIs u t ∧ Pulses n s t := by
  have hframe : OnlyChanges [] [] s (opJmp ((u.setCyc n).setAddr a)) := by
    apply onlyChanges_nothing <;> rw [← hu] <;> rfl
  have htotal : u.cpu.total = s.cpu.total := by rw [hu]
  exact ⟨rfl, hframe, OutsideIs.refl u, rfl, htotal⟩

/-- `JSR`: two pushes below `S` and `PC` at the operand (R262). -/
theorem opJsr_eq (s : State) :
    opJsr s = (ramWrite (ramWrite s (256 + s.cpu.s.toNat) (hiByte (s.cpu.pc - 1#16)))
      (256 + (s.cpu.s - 1#8).toNat) (loByte (s.cpu.pc - 1#16))).withCpu
        { s.cpu with s := s.cpu.s - 2#8, pc := s.cpu.addr } := by
  obtain ⟨hcpu, hout⟩ := pushWord_spec (s.cpu.pc - 1#16) s
  rw [opJsr, State.eq_withCpu hout, hcpu]
  rfl

/-- `RTS`: a word pulled and `PC` one past it (R263). -/
theorem opRts_eq (s : State) :
    opRts s = (s.setS (s.cpu.s + 2#8)).setPc
      (word16 (ramRead s (256 + (s.cpu.s + 2#8).toNat)) (ramRead s (256 + (s.cpu.s + 1#8).toNat)) + 1#16) := by
  rw [opRts, pullWord_eq]

/-- `BRK`: three pushes below `S`, of the address after the skipped byte and of the status, then `I` and the vector
(R266). -/
theorem opBrk_eq (s : State) :
    opBrk s = (ramWrite (ramWrite (ramWrite s (256 + s.cpu.s.toNat) (hiByte (s.cpu.pc + 1#16)))
      (256 + (s.cpu.s - 1#8).toNat) (loByte (s.cpu.pc + 1#16)))
      (256 + (s.cpu.s - 2#8).toNat) (s.cpu.p ||| 0x30#8)).withCpu
        { s.cpu with
          s := s.cpu.s - 3#8, p := putI true s.cpu.p, pc := word16 (busPeek s 0xFFFF#16) (busPeek s 0xFFFE#16) } := by
  obtain ⟨hcpu, hout⟩ := takeException_spec Config.irqVector true (s.setPc (s.cpu.pc + 1#16)) (by decide) (by decide)
  rw [opBrk, State.eq_withCpu hout, hcpu, pushedByEntry_true]
  rfl

/-- Taken or not, a branch changes only `PC` and the pulses. -/
theorem opBranch_keeps (cond : Bool) (s : State) :
    OnlyChanges [] [] s (opBranch cond s) ∧ OutsideIs s (opBranch cond s) ∧
      (opBranch cond s).cpu.total = s.cpu.total := by
  cases cond <;> exact ⟨onlyChanges_nothing rfl rfl rfl rfl rfl, OutsideIs.refl s, rfl⟩

/-- A branch taken: `PC` at the target, and one pulse more, two when the target lies in another page (R265). -/
theorem opBranch_true (s : State) :
    opBranch true s = (s.addCyc (1 + crossPulse s.cpu.pc s.cpu.addr)).setPc s.cpu.addr := by
  rw [opBranch, if_pos rfl, crossPulse]
  by_cases h : hiByte s.cpu.addr = hiByte s.cpu.pc
  · rw [if_neg (not_not_intro h), if_pos h]
  · rw [if_pos h, if_neg h]

/-- The eight branches are one operation on eight conditions. -/
theorem branchForm_of_opBranch {s : State} {opcode : Byte} {branch : Byte → Instr} {cond : Bool}
    (hrun : FormRuns s (opcode, branch) fun r => runAddress 2 (eaRel s r) (opBranch cond) s) :
    BranchForm s opcode branch cond := by
  intro r
  obtain ⟨hhead, hexec⟩ := hrun r
  obtain ⟨honly, hout, htotal⟩ := opBranch_keeps cond ((s.setCyc 2).setAddr (eaRel s r))
  have hstart : OnlyChanges [] [] s ((s.setCyc 2).setAddr (eaRel s r)) := onlyChanges_nothing rfl rfl rfl rfl rfl
  refine ⟨hhead, _, hexec, hstart.trans honly, hout, ?_, ?_⟩ <;> rintro rfl
  · exact ⟨rfl, rfl, htotal⟩
  · rw [opBranch_true] at htotal ⊢
    exact ⟨rfl, (Nat.add_assoc 2 1 _).symm, htotal⟩

end Sys2Proof.Machine
end

section
/-! The statements of 44_control_flow.md: jumps, subroutines, `RTI` and `BRK`, branches. -/

namespace Sys2Proof.Machine

/-- Settles O19: both forms are one jump, the indirect one in the state its two pointer reads leave. -/
theorem jumpResults : Obligations.JumpResults := by
  intro s
  refine ⟨fun a => ⟨rfl, _, rfl, opJmp_outcome 3 a rfl⟩, fun ptr => ?_⟩
  simp only [← indSecond_eq]
  exact ⟨rfl, _, rfl, opJmp_outcome 5 _ (readIndirect_cpu s ptr)⟩

/-- Settles O20: `JSR` is two pushes, `RTS` the pull of a word. -/
theorem subroutineResults : Obligations.SubroutineResults := by
  intro s
  constructor
  · intro a
    have hop := opJsr_eq ((s.setCyc 6).setAddr a)
    exact ⟨rfl, _, congrArg Host.Outcome.next hop, rfl, rfl, onlyChanges_stackPointer rfl rfl rfl fun _ _ => rfl,
      OutsideIs.refl (ramWrite (ramWrite s _ _) _ _), rfl, rfl⟩
  · have hop := opRts_eq (s.setCyc 6)
    exact ⟨rfl, _, congrArg Host.Outcome.next hop, rfl, rfl, onlyChanges_stackPointer rfl rfl rfl fun _ _ => rfl,
      OutsideIs.refl s, rfl, rfl⟩

/-- Settles O21: `RTI` is the return from an exception, `BRK` the taking of one, charged from its table entry. -/
theorem rtiAndBrkResults : Obligations.RtiAndBrkResults := by
  intro s
  constructor
  · have hop := returnFromException_eq (s.setCyc 6)
    have hall : ∀ f : Flag, f ∈ [Flag.n, .v, .u, .b, .d, .i, .z, .c] := fun f => by cases f <;> decide
    exact ⟨rfl, _, congrArg Host.Outcome.next hop, rfl, rfl, rfl,
      onlyChanges_stackPointer rfl rfl rfl fun f hf => absurd (hall f) hf, OutsideIs.refl s, rfl, rfl⟩
  · have hop := opBrk_eq (s.setCyc 7)
    exact ⟨rfl, _, congrArg Host.Outcome.next hop, rfl, rfl, flagI_putI true s.cpu.p,
      onlyChanges_stackPointer rfl rfl rfl (writesFlags_putI true s.cpu.p),
      OutsideIs.refl (ramWrite (ramWrite (ramWrite s _ _) _ _) _ _), rfl, rfl⟩

/-- Settles O22: the eight branches are one operation on eight conditions. -/
theorem branchResults : Obligations.BranchResults := by
  intro s
  simp only [beq_true, beq_false]
  refine ⟨?_, ?_, ?_, ?_, ?_, ?_, ?_, ?_⟩ <;> exact branchForm_of_opBranch fun _ => ⟨rfl, rfl⟩

end Sys2Proof.Machine
end

section
/-! Stack and flag operations (45_stack_flags_nop.md): the pushes and pulls as what they leave of the state, and an
instruction that rewrites the status word alone. -/

namespace Sys2Proof.Machine

theorem writesFlags_putC (b : Bool) : WritesFlags [.c] (putC b) := by
  intro p f hf
  cases f <;> simp_all [Flag.value]

theorem writesFlags_putV (b : Bool) : WritesFlags [.v] (putV b) := by
  intro p f hf
  cases f <;> simp_all [Flag.value]

theorem writesFlags_putD (b : Bool) : WritesFlags [.d] (putD b) := by
  intro p f hf
  cases f <;> simp_all [Flag.value]

/-- A function of the status word may change all its flags. -/
theorem writesFlags_all (g : Byte → Byte) : WritesFlags [.n, .v, .u, .b, .d, .i, .z, .c] g := by
  intro p f hf
  have hall : f ∈ [Flag.n, .v, .u, .b, .d, .i, .z, .c] := by cases f <;> decide
  exact absurd hall hf

/-- `PLA`: the byte above `S` is loaded into `A`, `S` one higher (R282). -/
theorem opPla_eq (s : State) :
    opPla s = loadA (ramRead s (256 + (s.cpu.s + 1#8).toNat)) (s.setS (s.cpu.s + 1#8)) := by
  rw [opPla, pull_eq]

/-- `PLP`: the byte above `S` goes into `P` as a pulled status, `S` one higher (R283). -/
theorem opPlp_eq (s : State) :
    opPlp s = (s.setS (s.cpu.s + 1#8)).setP (pulledStatus (ramRead s (256 + (s.cpu.s + 1#8).toNat))) := by
  rw [opPlp, pull_eq]

theorem cpuOnly_opPla (s : State) : CpuOnly [.a, .s] [.z, .n] s (opPla s) := by
  rw [opPla_eq]
  exact
    { onlyChanges :=
        ⟨fun | .a, ha => absurd (by decide) ha
             | .s, hs => absurd (by decide) hs
             | .x, _ | .y, _ => rfl, writesFlags_putZN _ s.cpu.p⟩
      pc := rfl
      pulses := ⟨rfl, rfl⟩
      outside := OutsideIs.refl s }

theorem cpuOnly_opPlp (s : State) : CpuOnly [.s] [.n, .v, .u, .b, .d, .i, .z, .c] s (opPlp s) := by
  rw [opPlp_eq]
  exact
    { onlyChanges := onlyChanges_stackPointer rfl rfl rfl (writesFlags_all (fun _ => _) s.cpu.p)
      pc := rfl
      pulses := ⟨rfl, rfl⟩
      outside := OutsideIs.refl s }

variable {s : State} {opcode : Byte} {i : Instr} {n : Nat}

/-- An implied instruction that pushes `v`. -/
theorem completes_push (v : Byte) (hi : (encode i).head? = some opcode ∧ exec i s = runImplied n (push v) s) :
    Completes opcode i s fun t => t.cpu.s = s.cpu.s - 1#8 ∧ OnlyChanges [.s] [] s t ∧ t.cpu.pc = s.cpu.pc ∧
      OutsideIs (ramWrite s (256 + s.cpu.s.toNat) v) t ∧ Pulses n s t := by
  obtain ⟨hhead, hexec⟩ := hi
  refine ⟨hhead, _, hexec.trans (congrArg Host.Outcome.next (push_eq v (s.setCyc n))), ?_⟩
  exact ⟨rfl, onlyChanges_stackPointer rfl rfl rfl fun _ _ => rfl, rfl, OutsideIs.refl (ramWrite s _ v), rfl, rfl⟩

/-- An implied instruction that rewrites `P` by `g` alone. -/
theorem WritesFlags.impliedForm {flags : List Flag} {g : Byte → Byte} {P : State → Prop} (h : WritesFlags flags g)
    (hP : ∀ t : State, t.cpu.p = g s.cpu.p → P t)
    (hi : (encode i).head? = some opcode ∧ exec i s = runImplied n (fun u => u.mapP g) s) :
    ImpliedForm s opcode i n [] flags P :=
  impliedForm_of_cpuOnly (h.cpuOnly_mapP _) (hP _ rfl) hi

end Sys2Proof.Machine
end

section
/-! The statements of 45_stack_flags_nop.md: pushes and pulls, flag instructions and `NOP`. -/

namespace Sys2Proof.Machine

/-- Settles O23: `PHA` and `PHP` are one push, `PLA` a load of the pulled byte, `PLP` the pull of a status. -/
theorem stackResults : Obligations.StackResults := by
  intro s
  refine ⟨completes_push s.cpu.a ⟨rfl, rfl⟩, completes_push (s.cpu.p ||| 0x30#8) ⟨rfl, rfl⟩, ?_, ?_⟩
  · refine impliedForm_of_cpuOnly (op := opPla) (cpuOnly_opPla _) ?_ ⟨rfl, rfl⟩
    rw [opPla_eq]
    exact ⟨rfl, rfl, znOf_of_putZN rfl⟩
  · refine impliedForm_of_cpuOnly (op := opPlp) (cpuOnly_opPlp _) ?_ ⟨rfl, rfl⟩
    rw [opPlp_eq]
    exact ⟨rfl, rfl⟩

/-- Settles O24: each flag instruction rewrites `P` by one write of its flag, `NOP` by the identity. -/
theorem flagResults : Obligations.FlagResults := by
  intro s
  refine ⟨?_, ?_, ?_, ?_, ?_, ?_, ?_, ?_⟩
  · exact (writesFlags_putC false).impliedForm (fun _ h => h ▸ flagC_putC ..) ⟨rfl, rfl⟩
  · exact (writesFlags_putC true).impliedForm (fun _ h => h ▸ flagC_putC ..) ⟨rfl, rfl⟩
  · exact (writesFlags_putI false).impliedForm (fun _ h => h ▸ flagI_putI ..) ⟨rfl, rfl⟩
  · exact (writesFlags_putI true).impliedForm (fun _ h => h ▸ flagI_putI ..) ⟨rfl, rfl⟩
  · exact (writesFlags_putV false).impliedForm (fun _ h => h ▸ flagV_putV ..) ⟨rfl, rfl⟩
  · exact (writesFlags_putD false).impliedForm (fun _ h => h ▸ flagD_putD ..) ⟨rfl, rfl⟩
  · exact (writesFlags_putD true).impliedForm (fun _ h => h ▸ flagD_putD ..) ⟨rfl, rfl⟩
  · have hid : WritesFlags [] id := fun _ _ _ => rfl
    exact hid.impliedForm (fun _ h => h) ⟨rfl, rfl⟩

end Sys2Proof.Machine
end

section
/-! The PPU registers on the bus (20_memory.md R85, 46_ppu_registers.md): the rows of the address map where a read has a
side effect, one equation per register for a read and a write, the bits of `t`, and the increment of `v`. -/

namespace Sys2Proof.Machine

/-! ### The rows where a read can change state -/

theorem busRegion_ppu_iff (a : Addr) : busRegion a = .ppu ↔ 0x2000 ≤ a.toNat ∧ a.toNat < 0x4000 := by
  unfold busRegion
  split_ifs <;> simp <;> omega

theorem busRegion_pad1_iff (a : Addr) : busRegion a = .pad1 ↔ a.toNat = 0x4016 := by
  unfold busRegion
  split_ifs <;> simp <;> omega

theorem busRegion_pad2_iff (a : Addr) : busRegion a = .pad2 ↔ a.toNat = 0x4017 := by
  unfold busRegion
  split_ifs <;> simp <;> omega

theorem busTouch_of_pad1 {s : State} {a : Addr} (h : busRegion a = .pad1) :
    busTouch s a = s.setPad1 (padTouch s.params.controllerTail s.pad1) := by
  rw [busTouch, h]

theorem busTouch_of_pad2 {s : State} {a : Addr} (h : busRegion a = .pad2) :
    busTouch s a = s.setPad2 (padTouch s.params.controllerTail s.pad2) := by
  rw [busTouch, h]

theorem ppuRegTouch_quiet {s : State} {r : Nat} (h2 : r ≠ 2) (h7 : r ≠ 7) : ppuRegTouch s r = s := by
  unfold ppuRegTouch
  split
  · exact absurd rfl h2
  · exact absurd rfl h7
  · rfl

/-- Outside the status register, the data port and the controller ports a read changes nothing (20_memory.md R82). -/
theorem busTouch_quiet {s : State} {a : Addr}
    (hppu : busRegion a = .ppu → a.toNat % 8 ≠ 2 ∧ a.toNat % 8 ≠ 7) (h1 : busRegion a ≠ .pad1)
    (h2 : busRegion a ≠ .pad2) : busTouch s a = s := by
  cases hreg : busRegion a with
  | ppu =>
    obtain ⟨hstatus, hdata⟩ := hppu hreg
    rw [busTouch_of_ppu hreg, ppuRegTouch_quiet hstatus hdata]
  | pad1 => exact absurd hreg h1
  | pad2 => exact absurd hreg h2
  | ram => exact busTouch_of_ram hreg
  | oamDma | unmapped | mapper => rw [busTouch, hreg]

/-! ### Reads -/

theorem dataPortAddr_eq (p : Ppu) : dataPortAddr p = BitVec.ofNat 14 p.v.toNat := (BitVec.ofNat_toNat 14 p.v).symm

theorem palIndex_mod (i : Nat) : palIndex (i % 32) = palIndex i := by
  rw [palIndex_eq_palIndex_iff, Nat.mod_mod]
  exact .inl rfl

theorem palRead_mod (p : Ppu) (i : Nat) : palRead p (i % 32) = palRead p i := by
  rw [palRead, palIndex_mod, palRead]

theorem palWrite_mod (p : Ppu) (i : Nat) (v : Byte) : palWrite p (i % 32) v = palWrite p i v := by
  rw [palWrite, palIndex_mod, palWrite]

/-- The status byte has the three flags in bits 7 to 5 and 0 below (R314, R315). -/
theorem statusByte_toNat (p : Ppu) : (statusByte p).toNat =
    (if p.vblank then 128 else 0) + (if p.sprite0 then 64 else 0) + (if p.overflow then 32 else 0) := by
  rw [statusByte]
  cases p.vblank <;> cases p.sprite0 <;> cases p.overflow <;> rfl

theorem dataPortValue_eq (p : Ppu) : dataPortValue p =
    if 0x3F00 ≤ (BitVec.ofNat 14 p.v.toNat).toNat then palRead p ((BitVec.ofNat 14 p.v.toNat).toNat % 32)
    else p.readBuf := by
  rw [dataPortValue, dataPortAddr_eq, palRead_mod]

theorem ppuRegPeek_writeOnly {s : State} {r : Nat} (h2 : r ≠ 2) (h4 : r ≠ 4) (h7 : r ≠ 7) :
    ppuRegPeek s r = 0#8 := by
  unfold ppuRegPeek
  split
  · exact absurd rfl h2
  · exact absurd rfl h4
  · exact absurd rfl h7
  · rfl

section Registers

variable {s : State} {a : Addr} {v : Byte} (hppu : busRegion a = .ppu)
include hppu

theorem busTouch_status (hr : a.toNat % 8 = 2) :
    busTouch s a = s.setPpu { s.ppu with vblank := false, w := false } := by
  rw [busTouch_of_ppu hppu, hr, ppuRegTouch]

theorem busTouch_dataPort (hr : a.toNat % 8 = 7) :
    busTouch s a = s.setPpu (incV { s.ppu with readBuf := ppuRd s (BitVec.ofNat 14 s.ppu.v.toNat) }) := by
  rw [busTouch_of_ppu hppu, hr, ppuRegTouch, dataPortAddr_eq]

/-- A write to the register number `r` an address of the window names. -/
theorem busWrite_register {r : Nat} (hr : a.toNat % 8 = r) : busWrite s a v = ppuRegWrite s r v := by
  rw [busWrite_of_ppu hppu, hr]

end Registers

/-! ### The bits of `t` after a write: its masks are literals, so each of the 15 bits is one case -/

theorem tAfterCtrl_getLsbD (t : BitVec 15) (v : Byte) (i : Nat) (hi : i < 15) : (tAfterCtrl t v).getLsbD i =
    if i = 10 then v.getLsbD 0 else if i = 11 then v.getLsbD 1 else t.getLsbD i := by
  interval_cases i <;> simp [tAfterCtrl]

theorem tAfterScroll1_getLsbD (t : BitVec 15) (v : Byte) (i : Nat) (hi : i < 15) : (tAfterScroll1 t v).getLsbD i =
    if i < 5 then v.getLsbD (i + 3) else t.getLsbD i := by
  interval_cases i <;> simp [tAfterScroll1]

theorem tAfterScroll2_getLsbD (t : BitVec 15) (v : Byte) (i : Nat) (hi : i < 15) : (tAfterScroll2 t v).getLsbD i =
    if 12 ≤ i then v.getLsbD (i - 12) else if 5 ≤ i ∧ i < 10 then v.getLsbD (i - 2) else t.getLsbD i := by
  interval_cases i <;> simp [tAfterScroll2]

theorem tAfterAddr1_getLsbD (t : BitVec 15) (v : Byte) (i : Nat) (hi : i < 15) : (tAfterAddr1 t v).getLsbD i =
    if i = 14 then false else if 8 ≤ i then v.getLsbD (i - 8) else t.getLsbD i := by
  interval_cases i <;> simp [tAfterAddr1]

theorem tAfterAddr2_getLsbD (t : BitVec 15) (v : Byte) (i : Nat) (hi : i < 15) : (tAfterAddr2 t v).getLsbD i =
    if i < 8 then v.getLsbD i else t.getLsbD i := by
  interval_cases i <;> simp [tAfterAddr2]

/-! ### The two-write registers -/

theorem scrollWrite_first {p : Ppu} (hw : p.w = false) (v : Byte) :
    scrollWrite p v = { p with t := tAfterScroll1 p.t v, x := BitVec.ofNat 3 (v.toNat % 8), w := true } := by
  have hx : v.setWidth 3 = BitVec.ofNat 3 (v.toNat % 8) := BitVec.eq_of_toNat_eq (by simp)
  rw [scrollWrite, hw, hx]
  rfl

theorem scrollWrite_second {p : Ppu} (hw : p.w = true) (v : Byte) :
    scrollWrite p v = { p with t := tAfterScroll2 p.t v, w := false } := by
  rw [scrollWrite, if_pos hw]

theorem addrWrite_first {p : Ppu} (hw : p.w = false) (v : Byte) :
    addrWrite p v = { p with t := tAfterAddr1 p.t v, w := true } := by
  rw [addrWrite, hw]
  rfl

theorem addrWrite_second {p : Ppu} (hw : p.w = true) (v : Byte) :
    addrWrite p v = { p with t := tAfterAddr2 p.t v, v := tAfterAddr2 p.t v, w := false } := by
  rw [addrWrite, if_pos hw]

/-! ### The data port write and the increment of `v` -/

theorem ppuWr_ppu (s : State) (a : BitVec 14) (v : Byte) : (ppuWr s a v).ppu = s.ppu :=
  (ppuWr_keeps s a v).2.1

theorem dataPortWrite_palette {s : State} (h : 0x3F00 ≤ (dataPortAddr s.ppu).toNat) (v : Byte) :
    dataPortWrite s v = s.setPpu (incV (palWrite s.ppu (dataPortAddr s.ppu).toNat v)) := by
  rw [dataPortWrite, dataPortStore, if_pos h, State.setPpu_ppu, setPpu_setPpu]

theorem dataPortWrite_memory {s : State} (h : (dataPortAddr s.ppu).toNat < 0x3F00) (v : Byte) :
    dataPortWrite s v = (ppuWr s (dataPortAddr s.ppu) v).setPpu (incV s.ppu) := by
  rw [dataPortWrite, dataPortStore, if_neg (Nat.not_le.2 h), ppuWr_ppu]

/-- The increment writes `v` alone. -/
theorem incV_eq_setV (p : Ppu) : incV p = { p with v := (incV p).v } := by
  unfold incV
  split <;> rfl

theorem incV_readBuf (p : Ppu) : (incV p).readBuf = p.readBuf := by
  rw [incV_eq_setV]

/-- Rendering active (R312): background or sprites shown, on a visible line or the pre-render line. -/
theorem renderingActive_iff (p : Ppu) : renderingActive p = true ↔
    (p.mask.getLsbD 3 = true ∨ p.mask.getLsbD 4 = true) ∧ (p.scanline ≤ 239 ∨ p.scanline = 261) := by
  simp [renderingActive, renderingEnabled, renderingLine, Ppu.showBg, Ppu.showSp]

theorem incV_rendering {p : Ppu} (h : renderingActive p = true) :
    incV p = { p with v := incFineY (incCoarseX p.v) } := if_pos h

theorem incV_idle {p : Ppu} (h : ¬renderingActive p = true) :
    incV p = { p with v := BitVec.ofNat 15 (p.v.toNat + if p.ctrl.getLsbD 2 then 32 else 1) } := by
  rw [incV, if_neg h, Ppu.inc32]
  cases p.ctrl.getLsbD 2 <;> rfl

end Sys2Proof.Machine
end

section
/-! The statements of 46_ppu_registers.md. -/

namespace Sys2Proof.Machine

/-- Settles O31: by the row of the address map; in the PPU row by the register number. -/
theorem readSideEffects : Obligations.ReadSideEffects := by
  intro s a
  refine ⟨rfl, rfl, ?_, ?_, fun h => ?_, fun h => ?_, fun hppu h1 h2 => ?_⟩
  · rintro ⟨hlo, hhi, hr⟩
    exact busTouch_status (busRegion_of_ppu hlo hhi) hr
  · rintro ⟨hlo, hhi, hr⟩
    rw [busTouch_dataPort (busRegion_of_ppu hlo hhi) hr, State.setPpu_ppu, incV_readBuf]
    exact congrArg s.setPpu (incV_eq_setV _)
  · rw [busTouch_of_pad1 ((busRegion_pad1_iff a).2 h), State.setPad1_pad1]
  · rw [busTouch_of_pad2 ((busRegion_pad2_iff a).2 h), State.setPad2_pad2]
  · refine busTouch_quiet (fun hreg => ?_) (mt (busRegion_pad1_iff a).1 h1) (mt (busRegion_pad2_iff a).1 h2)
    obtain ⟨hlo, hhi⟩ := (busRegion_ppu_iff a).1 hreg
    exact not_or.1 fun hr => hppu ⟨hlo, hhi, hr⟩

/-- Settles O40: register by register, the two-write registers by the toggle. -/
theorem ppuRegisterWrites : Obligations.PpuRegisterWrites := by
  intro s a v hlo hhi p
  have hppu := busRegion_of_ppu hlo hhi
  refine ⟨fun hr => ⟨_, busWrite_register hppu hr, tAfterCtrl_getLsbD p.t v⟩, fun hr => busWrite_register hppu hr,
    fun hr => busWrite_register hppu hr, fun hr => busWrite_register hppu hr, fun hr => ?_,
    fun hr hw => ⟨_, ?_, tAfterScroll1_getLsbD p.t v⟩, fun hr hw => ⟨_, ?_, tAfterScroll2_getLsbD p.t v⟩,
    fun hr hw => ⟨_, ?_, tAfterAddr1_getLsbD p.t v⟩, fun hr hw => ⟨_, ?_, tAfterAddr2_getLsbD p.t v⟩⟩
  · rw [busWrite_register hppu hr, ppuRegWrite, BitVec.add_def]
    rfl
  · rw [busWrite_register hppu hr, ppuRegWrite, scrollWrite_first hw]
  · rw [busWrite_register hppu hr, ppuRegWrite, scrollWrite_second hw]
  · rw [busWrite_register hppu hr, ppuRegWrite, addrWrite_first hw]
  · rw [busWrite_register hppu hr, ppuRegWrite, addrWrite_second hw]

/-- Settles O41: register by register, the byte of `busPeek` and the change of `busTouch`. -/
theorem ppuRegisterReads : Obligations.PpuRegisterReads := by
  intro s a hlo hhi p r pa
  have hppu := busRegion_of_ppu hlo hhi
  have hpeek : busPeek s a = ppuRegPeek s r := busPeek_of_ppu hppu
  have hquiet (h2 : r ≠ 2) (h7 : r ≠ 7) : busTouch s a = s :=
    (busTouch_of_ppu hppu).trans (ppuRegTouch_quiet h2 h7)
  refine ⟨rfl, rfl, fun hr => ⟨?_, hquiet (by omega) (by omega)⟩, fun hr => ⟨?_, busTouch_status hppu hr⟩,
    fun hr => ⟨?_, hquiet (by omega) (by omega)⟩, fun hr => ⟨?_, busTouch_dataPort hppu hr⟩⟩
  · rw [hpeek, ppuRegPeek_writeOnly (by omega) (by omega) (by omega)]
  · rw [hpeek, hr, ppuRegPeek, statusByte_toNat]
  · rw [hpeek, hr, ppuRegPeek]
  · rw [hpeek, hr, ppuRegPeek, dataPortValue_eq]

/-- Settles O42: the store by the half of the PPU address space, the increment by whether rendering is active. (The
obligation's own name is taken by the model's `dataPortWrite`.) -/
theorem dataPortWrite_spec : Obligations.DataPortWrite := by
  constructor
  · intro s a val hlo hhi hr pa
    have hpa : dataPortAddr s.ppu = pa := dataPortAddr_eq s.ppu
    rw [busWrite_register (busRegion_of_ppu hlo hhi) hr, ppuRegWrite, palWrite_mod, ← hpa]
    exact ⟨fun h => dataPortWrite_palette h val, fun h => dataPortWrite_memory h val⟩
  · intro p active
    have hactive : renderingActive p = true ↔ active := renderingActive_iff p
    exact ⟨fun h => incV_rendering (hactive.2 h), fun h => incV_idle (mt hactive.1 h)⟩

end Sys2Proof.Machine
end

section
/-! The parts of a PPU pulse as the events and the counters see them (47_ppu_background.md R341 to R344): the point of the
grid is the same until the counters advance, and outside the PPU a pulse does what its flag event does. -/

namespace Sys2Proof.Machine

/-! ### The point of the grid -/

/-- `q` stands at the grid point, the parity and the mask of `p`: all that `Advance()` reads (R342). -/
structure SamePoint (p q : Ppu) : Prop where
  scanline : q.scanline = p.scanline
  cycle : q.cycle = p.cycle
  frameOdd : q.frameOdd = p.frameOdd
  mask : q.mask = p.mask

theorem SamePoint.trans {p q r : Ppu} (h : SamePoint p q) (h' : SamePoint q r) : SamePoint p r :=
  ⟨h'.scanline.trans h.scanline, h'.cycle.trans h.cycle, h'.frameOdd.trans h.frameOdd, h'.mask.trans h.mask⟩

theorem samePoint_flagEvents (l c : Nat) (s : State) : SamePoint s.ppu (flagEvents l c s).ppu := by
  rw [flagEvents_ppu]
  split_ifs <;> exact ⟨rfl, rfl, rfl, rfl⟩

theorem samePoint_outputPixel (clip : Bool) (l c : Nat) (p : Ppu) : SamePoint p (outputPixel clip l c p) := by
  rw [outputPixel_eq]
  exact ⟨rfl, rfl, rfl, rfl⟩

theorem samePoint_backgroundStep (l c : Nat) (s : State) : SamePoint s.ppu (backgroundStep l c s).ppu :=
  ⟨backgroundStep_scanline .., backgroundStep_cycle .., backgroundStep_frameOdd .., backgroundStep_mask ..⟩

theorem samePoint_spriteStep (l c : Nat) (s : State) : SamePoint s.ppu (spriteStep l c s).ppu :=
  ⟨spriteStep_scanline .., spriteStep_cycle .., spriteStep_frameOdd .., spriteStep_mask ..⟩

theorem samePoint_renderWork (l c : Nat) (s : State) : SamePoint s.ppu (renderWork l c s).ppu := by
  unfold renderWork
  split
  · refine .trans ?_ ((samePoint_backgroundStep ..).trans (samePoint_spriteStep ..))
    split
    · exact samePoint_outputPixel ..
    · exact ⟨rfl, rfl, rfl, rfl⟩
  · exact ⟨rfl, rfl, rfl, rfl⟩

theorem samePoint_frameSwap (l c : Nat) (p : Ppu) : SamePoint p (frameSwap l c p) :=
  ⟨frameSwap_scanline .., frameSwap_cycle .., frameSwap_frameOdd .., frameSwap_mask ..⟩

/-- A pulse is the advance of the counters from the point it started at. -/
theorem ppuPulse_eq_advance (s : State) : ∃ p, SamePoint s.ppu p ∧ (ppuPulse s).ppu = advance p :=
  ⟨_, (samePoint_flagEvents ..).trans ((samePoint_renderWork ..).trans (samePoint_frameSwap ..)), ppuPulse_ppu s⟩

theorem renderingEnabled_iff (p : Ppu) :
    renderingEnabled p = true ↔ p.mask.getLsbD 3 = true ∨ p.mask.getLsbD 4 = true := by
  rw [renderingEnabled, Bool.or_eq_true]
  rfl

/-- The point `Advance()` jumps from (R342): (261, 339) of an odd frame with rendering enabled. -/
def SkipsCycle (p : Ppu) : Prop :=
  p.scanline = 261 ∧ p.cycle = 339 ∧ p.frameOdd = true ∧ (p.mask.getLsbD 3 = true ∨ p.mask.getLsbD 4 = true)

theorem skipsCycle_iff (p : Ppu) : SkipsCycle p ↔
    p.scanline = 261 ∧ p.cycle = 339 ∧ p.frameOdd = true ∧ renderingEnabled p = true := by
  rw [SkipsCycle, renderingEnabled_iff]

theorem advance_of_skip {p : Ppu} (h : SkipsCycle p) :
    advance p = { p with cycle := 0, scanline := 0, frameOdd := false } :=
  if_pos ((skipsCycle_iff p).1 h)

theorem advance_of_not_skip {p : Ppu} (h : ¬SkipsCycle p) :
    advance p = if p.cycle = 340 then
      if p.scanline = 261 then { p with cycle := 0, scanline := 0, frameOdd := !p.frameOdd }
      else { p with cycle := 0, scanline := p.scanline + 1 }
    else { p with cycle := p.cycle + 1 } :=
  if_neg (mt (skipsCycle_iff p).2 h)

/-- `Advance()` from a point of the grid keeps to it and, without a skip, moves one place in reading order (R342). -/
theorem advance_grid {p : Ppu} (hl : p.scanline ≤ 261) (hc : p.cycle ≤ 340) :
    (advance p).scanline ≤ 261 ∧ (advance p).cycle ≤ 340 ∧
      (SkipsCycle p → 341 * (advance p).scanline + (advance p).cycle = 0 ∧ (advance p).frameOdd = false) ∧
      (¬SkipsCycle p →
        341 * (advance p).scanline + (advance p).cycle = (341 * p.scanline + p.cycle + 1) % 89342 ∧
        (advance p).frameOdd = if 341 * p.scanline + p.cycle = 89341 then !p.frameOdd else p.frameOdd) := by
  by_cases hskip : SkipsCycle p
  · rw [advance_of_skip hskip]
    exact ⟨Nat.zero_le _, Nat.zero_le _, fun _ => ⟨rfl, rfl⟩, fun h => absurd hskip h⟩
  · have hcorner : 341 * p.scanline + p.cycle = 89341 ↔ p.cycle = 340 ∧ p.scanline = 261 := by omega
    simp only [advance_of_not_skip hskip, hskip, false_implies, not_false_eq_true, true_implies, true_and, hcorner]
    split_ifs <;> simp <;> omega

/-! ### Outside the PPU -/

/-- Outside the PPU a pulse does what its flag event does. -/
theorem ppuPulse_eq_flagEvents (s : State) :
    ppuPulse s = (flagEvents s.ppu.scanline s.ppu.cycle s).setPpu (ppuPulse s).ppu := by
  have hwork := renderWork_setPpu s.ppu.scanline s.ppu.cycle (flagEvents s.ppu.scanline s.ppu.cycle s)
  simp only [ppuPulse]
  rw [hwork]
  rfl

/-- Only the vblank event reaches outside the PPU. -/
theorem ppuPulse_eq_setPpu {s : State} (h : ¬(s.ppu.scanline = 241 ∧ s.ppu.cycle = 1)) :
    ppuPulse s = s.setPpu (ppuPulse s).ppu := by
  rw [ppuPulse_eq_flagEvents, flagEvents_eq _ _ _ h]
  rfl

/-- At (241, 1) a pulse enters the NMI when it is enabled (R343). -/
theorem ppuPulse_vblankStart {s : State} (h : s.ppu.scanline = 241 ∧ s.ppu.cycle = 1) :
    ppuPulse s = (if s.ppu.ctrl.getLsbD 7 then nmi s else s).setPpu (ppuPulse s).ppu := by
  rw [ppuPulse_eq_flagEvents, flagEvents, if_pos h, vblankStart_eq]
  rfl

/-- No pulse writes what neither the PPU nor an NMI entry holds. -/
theorem ppuPulse_keepsDevices (s : State) :
    (ppuPulse s).vram = s.vram ∧ (ppuPulse s).cart = s.cart ∧ (ppuPulse s).mapper = s.mapper ∧
      (ppuPulse s).pad1 = s.pad1 ∧ (ppuPulse s).pad2 = s.pad2 ∧ (ppuPulse s).params = s.params ∧
      (ppuPulse s).inputs = s.inputs := by
  by_cases h : s.ppu.scanline = 241 ∧ s.ppu.cycle = 1
  · rw [ppuPulse_vblankStart h]
    split
    · obtain ⟨-, -, -, hdevices⟩ := nmi_spec s
      exact hdevices
    · exact ⟨rfl, rfl, rfl, rfl, rfl, rfl, rfl⟩
  · rw [ppuPulse_eq_setPpu h]
    exact ⟨rfl, rfl, rfl, rfl, rfl, rfl, rfl⟩

/-! ### The status flags -/

theorem renderWork_vblank (l c : Nat) (s : State) : (renderWork l c s).ppu.vblank = s.ppu.vblank := by
  unfold renderWork
  split
  · simp only [spriteStep_vblank, backgroundStep_vblank]
    split
    · exact outputPixel_vblank ..
    · rfl
  · rfl

/-- Rendering leaves the vblank flag to the flag events. -/
theorem ppuPulse_vblank (s : State) :
    (ppuPulse s).ppu.vblank = (flagEvents s.ppu.scanline s.ppu.cycle s).ppu.vblank := by
  rw [ppuPulse_ppu, advance_vblank, frameSwap_vblank, renderWork_vblank]

/-- At cycle 1 of the pre-render line rendering draws no pixel and examines no sprite: two flags stay. -/
theorem renderWork_preRender_flags (s : State) :
    (renderWork 261 1 s).ppu.sprite0 = s.ppu.sprite0 ∧ (renderWork 261 1 s).ppu.overflow = s.ppu.overflow := by
  cases he : renderingEnabled s.ppu with
  | false =>
    rw [renderWork_off _ _ _ (.inr he)]
    exact ⟨rfl, rfl⟩
  | true =>
    rw [renderWork_on _ _ _ rfl he, if_neg (by decide), setPpu_self, backgroundStep_eq]
    exact ⟨rfl, rfl⟩

end Sys2Proof.Machine
end

section
/-! The background pipeline as arithmetic (47_ppu_background.md R351 to R356): each fetch address is its fields side by
side, and so a sum of multiples of them; the shift registers likewise. -/

namespace Sys2Proof.Machine

theorem append_toNat {m n : Nat} (x : BitVec m) (y : BitVec n) : (x ++ y).toNat = 2 ^ n * x.toNat + y.toNat := by
  rw [BitVec.toNat_append, ← Nat.shiftLeft_add_eq_or_of_lt y.isLt, Nat.shiftLeft_eq, Nat.mul_comm]

theorem append_eq_ofNat {m n : Nat} (x : BitVec m) (y : BitVec n) :
    x ++ y = BitVec.ofNat (m + n) (2 ^ n * x.toNat + y.toNat) := by
  rw [← append_toNat, BitVec.ofNat_toNat, BitVec.setWidth_eq]

/-! ### Addresses -/

/-- A nametable address is 2, the nametable, the row, the column (R351). -/
theorem ntFetchAddr_fields (v : BitVec 15) :
    ntFetchAddr v = 2#2 ++ (ntSelect v ++ (coarseY v ++ coarseX v)) := by
  refine BitVec.eq_of_getLsbD_eq fun i hi => ?_
  simp only [BitVec.getLsbD_append]
  interval_cases i <;> simp [ntFetchAddr, ntSelect, coarseY, coarseX]

theorem ntFetchAddr_eq (v : BitVec 15) : ntFetchAddr v =
    BitVec.ofNat 14 (0x2000 + 1024 * (ntSelect v).toNat + 32 * (coarseY v).toNat + (coarseX v).toNat) := by
  rw [ntFetchAddr_fields, append_eq_ofNat, append_toNat, append_toNat]
  exact congrArg (BitVec.ofNat 14) (by rw [BitVec.toNat_ofNat]; omega)

/-- The address of a quadrant byte is 2, the nametable, its last 64 bytes, the row and the column of the 4 by 4 tiles
(R352). -/
theorem atFetchAddr_fields (v : BitVec 15) :
    atFetchAddr v = 2#2 ++ (ntSelect v ++ (15#4 ++ ((coarseY v).extractLsb' 2 3 ++ (coarseX v).extractLsb' 2 3))) := by
  refine BitVec.eq_of_getLsbD_eq fun i hi => ?_
  simp only [BitVec.getLsbD_append]
  interval_cases i <;> simp [atFetchAddr, ntSelect, coarseY, coarseX]

theorem atFetchAddr_eq (v : BitVec 15) : atFetchAddr v = BitVec.ofNat 14
    (0x23C0 + 1024 * (ntSelect v).toNat + 8 * ((coarseY v).toNat / 4) + (coarseX v).toNat / 4) := by
  have hx := (coarseX v).isLt
  have hy := (coarseY v).isLt
  rw [atFetchAddr_fields, append_eq_ofNat, append_toNat, append_toNat, append_toNat]
  refine congrArg (BitVec.ofNat 14) ?_
  simp only [BitVec.toNat_ofNat, BitVec.extractLsb'_toNat, Nat.shiftRight_eq_div_pow]
  omega

/-- The quadrant is bit 1 of coarse Y above bit 1 of coarse X, each two bits wide (R352). -/
theorem atShift_eq (v : BitVec 15) : atShift v = 4 * ((coarseY v).toNat / 2 % 2) + 2 * ((coarseX v).toNat / 2 % 2) := by
  have hfields : ((v >>> 4) &&& 4#15) ||| (v &&& 2#15) =
      0#12 ++ ((coarseY v).extractLsb' 1 1 ++ ((coarseX v).extractLsb' 1 1 ++ 0#1)) := by
    refine BitVec.eq_of_getLsbD_eq fun i hi => ?_
    simp only [BitVec.getLsbD_append]
    interval_cases i <;> simp [coarseY, coarseX]
  rw [atShift, hfields, append_toNat, append_toNat, append_toNat]
  simp only [BitVec.toNat_ofNat, BitVec.extractLsb'_toNat, Nat.shiftRight_eq_div_pow]
  omega

theorem quadrantBits_eq (b : Byte) (n : Nat) : (b >>> n).setWidth 2 = BitVec.ofNat 2 (b.toNat / 2 ^ n) := by
  rw [← Nat.shiftRight_eq_div_pow, ← BitVec.toNat_ushiftRight, BitVec.ofNat_toNat]

/-- The address of either byte of a pattern row is the table, the tile, the plane, fine Y (R353, R354). -/
theorem patFetchAddr_fields (p : Ppu) (plane : Bool) :
    patFetchAddr p ||| (if plane then 8#14 else 0#14) =
      0#1 ++ (BitVec.ofBool p.bgTable ++ (p.ntByte ++ (BitVec.ofBool plane ++ fineY p.v))) := by
  refine BitVec.eq_of_getLsbD_eq fun i hi => ?_
  simp only [BitVec.getLsbD_append]
  unfold patFetchAddr
  cases p.bgTable <;> cases plane <;> interval_cases i <;> simp [fineY]

theorem patFetchAddr_eq (p : Ppu) (plane : Bool) :
    patFetchAddr p ||| (if plane then 8#14 else 0#14) = BitVec.ofNat 14 ((if p.ctrl.getLsbD 4 then 4096 else 0) +
      16 * p.ntByte.toNat + (if plane then 8 else 0) + (fineY p.v).toNat) := by
  rw [patFetchAddr_fields, append_eq_ofNat, append_toNat, append_toNat, append_toNat, Ppu.bgTable]
  refine congrArg (BitVec.ofNat 14) ?_
  cases p.ctrl.getLsbD 4 <;> cases plane <;> simp <;> omega

theorem patFetchAddr_low (p : Ppu) : patFetchAddr p =
    BitVec.ofNat 14 ((if p.ctrl.getLsbD 4 then 4096 else 0) + 16 * p.ntByte.toNat + (fineY p.v).toNat) :=
  BitVec.or_zero.symm.trans (patFetchAddr_eq p false)

theorem patFetchAddr_high (p : Ppu) : patFetchAddr p ||| 8#14 =
    BitVec.ofNat 14 ((if p.ctrl.getLsbD 4 then 4096 else 0) + 16 * p.ntByte.toNat + 8 + (fineY p.v).toNat) :=
  patFetchAddr_eq p true

/-! ### The shift registers -/

theorem shiftRegister_shift (r : BitVec 16) : r <<< 1 = BitVec.ofNat 16 (r.toNat * 2) := by
  apply BitVec.eq_of_toNat_eq
  rw [BitVec.toNat_shiftLeft, BitVec.toNat_ofNat, Nat.shiftLeft_eq, Nat.pow_one]

/-- A reload after a shift: the upper byte is the shifted one's, the lower byte is the pattern byte (R355, R356). -/
theorem shiftRegister_reload (r : BitVec 16) (b : Byte) :
    ((r <<< 1) &&& 0xFF00#16) ||| b.setWidth 16 = BitVec.ofNat 16 (r.toNat * 2 / 256 * 256 + b.toNat) := by
  have hfields : ((r <<< 1) &&& 0xFF00#16) ||| b.setWidth 16 = r.extractLsb' 7 8 ++ b := by
    refine BitVec.eq_of_getLsbD_eq fun i hi => ?_
    simp only [BitVec.getLsbD_append]
    interval_cases i <;> simp
  rw [hfields, append_eq_ofNat]
  apply BitVec.eq_of_toNat_eq
  simp only [BitVec.toNat_ofNat, BitVec.extractLsb'_toNat, Nat.shiftRight_eq_div_pow]
  omega

/-- What a cycle makes of a shift register: nothing outside a fetch window, in it a shift, with a reload at its end. -/
theorem shiftRegister_cycle (window reload : Prop) [Decidable window] [Decidable reload] (r : BitVec 16) (b : Byte) :
    (if window then (if reload then ((r <<< 1) &&& 0xFF00#16) ||| b.setWidth 16 else r <<< 1) else r) =
      if window ∧ reload then BitVec.ofNat 16 (r.toNat * 2 / 256 * 256 + b.toNat)
      else if window then BitVec.ofNat 16 (r.toNat * 2) else r := by
  rw [shiftRegister_reload, shiftRegister_shift]
  by_cases hwindow : window
  · simp only [hwindow, if_true, true_and]
  · simp only [hwindow, if_false, false_and]

/-! ### The pulse -/

/-- `q` has the background latches and registers and the scroll registers of `p`. -/
structure SamePipeline (p q : Ppu) : Prop where
  ntByte : q.ntByte = p.ntByte
  atBits : q.atBits = p.atBits
  patLo : q.patLo = p.patLo
  patHi : q.patHi = p.patHi
  bgLo : q.bgLo = p.bgLo
  bgHi : q.bgHi = p.bgHi
  palLatch0 : q.palLatch0 = p.palLatch0
  palLatch1 : q.palLatch1 = p.palLatch1
  v : q.v = p.v
  t : q.t = p.t
  x : q.x = p.x
  w : q.w = p.w

theorem SamePipeline.trans {p q r : Ppu} (h : SamePipeline p q) (h' : SamePipeline q r) : SamePipeline p r :=
  ⟨h'.ntByte.trans h.ntByte, h'.atBits.trans h.atBits, h'.patLo.trans h.patLo, h'.patHi.trans h.patHi,
    h'.bgLo.trans h.bgLo, h'.bgHi.trans h.bgHi, h'.palLatch0.trans h.palLatch0, h'.palLatch1.trans h.palLatch1,
    h'.v.trans h.v, h'.t.trans h.t, h'.x.trans h.x, h'.w.trans h.w⟩

/-- The background step reads nothing that the clear or the pixel before it writes. -/
theorem samePipeline_beforeBackground (l c : Nat) (s : State) :
    SamePipeline (backgroundStep l c s).ppu (backgroundStep l c (s.setPpu (beforeBackground s))).ppu := by
  rw [beforeBackground_eq, backgroundStep_eq l c s, backgroundStep_eq l c (s.setPpu _)]
  exact ⟨rfl, rfl, rfl, rfl, rfl, rfl, rfl, rfl, rfl, rfl, rfl, rfl⟩

/-- The sprite step, the frame swap and the counters write nothing of the pipeline. -/
theorem samePipeline_afterBackground (l c : Nat) (s : State) :
    SamePipeline s.ppu (advance (frameSwap l c (spriteStep l c s).ppu)) := by
  rw [advance_eq, frameSwap_eq, spriteStep_keeps]
  exact ⟨rfl, rfl, rfl, rfl, rfl, rfl, rfl, rfl, rfl, rfl, rfl, rfl⟩

/-- A rendering pulse leaves in the pipeline what the background step alone does. -/
theorem samePipeline_ppuPulse {s : State} (hl : renderingLine s.ppu.scanline = true)
    (he : renderingEnabled s.ppu = true) :
    SamePipeline (backgroundStep s.ppu.scanline s.ppu.cycle s).ppu (ppuPulse s).ppu := by
  rw [ppuPulse_on s hl he]
  exact (samePipeline_beforeBackground ..).trans (samePipeline_afterBackground ..)

theorem inFetchWindow_iff (c : Nat) : inFetchWindow c = true ↔ (1 ≤ c ∧ c ≤ 256) ∨ (321 ≤ c ∧ c ≤ 336) := by
  simp [inFetchWindow]

/-- The two copies from `t` come at different cycles, so they may be read one after the other (R362, R363). -/
theorem scrolledV_eq (l c : Nat) (p : Ppu) :
    scrolledV l c p =
      let v1 := if ((1 ≤ c ∧ c ≤ 256) ∨ (321 ≤ c ∧ c ≤ 336)) ∧ c % 8 = 0 then incCoarseX p.v else p.v
      let v2 := if c = 256 then incFineY v1 else v1
      let v3 := if c = 257 then copyHorizontal p.t v2 else v2
      if l = 261 ∧ 280 ≤ c ∧ c ≤ 304 then copyVertical p.t v3 else v3 := by
  simp only [scrolledV, inFetchWindow_iff]
  by_cases hc : c = 257
  · subst hc
    simp
  · simp only [if_neg hc]

end Sys2Proof.Machine
end

section
/-! The statements of 47_ppu_background.md. -/

namespace Sys2Proof.Machine

/-- Settles O44: the counters advance from the point the pulse started at. -/
theorem gridAdvance : Obligations.GridAdvance := by
  intro s hl hc
  obtain ⟨p, ⟨hline, hcycle, hodd, hmask⟩, hpulse⟩ := ppuPulse_eq_advance s
  have hgrid := advance_grid (p := p) (hline ▸ hl) (hcycle ▸ hc)
  rw [SkipsCycle, hline, hcycle, hodd, hmask, ← hpulse] at hgrid
  exact hgrid

/-- Settles O45: the flag events for the vblank flag and everything outside the PPU. -/
theorem vblankAndNmi : Obligations.VblankAndNmi := by
  intro s
  refine ⟨fun h => ⟨?_, fun hnmi => ?_, fun hnmi => ?_⟩, fun h => ?_, fun h => ⟨?_, ?_, fun h' => ?_⟩,
    ppuPulse_keepsDevices s⟩
  · rw [ppuPulse_vblank, flagEvents_ppu, if_pos h]
  · rw [ppuPulse_vblankStart h, if_pos hnmi]
    exact ⟨rfl, rfl⟩
  · rw [ppuPulse_vblankStart h, if_neg (ne_true_of_eq_false hnmi)]
    exact ⟨rfl, rfl⟩
  · obtain ⟨hline, hcycle⟩ := h
    obtain ⟨hsprite0, hoverflow⟩ := renderWork_preRender_flags (flagEvents 261 1 s)
    rw [ppuPulse_vblank, ppuPulse_ppu, hline, hcycle, advance_sprite0, advance_overflow, frameSwap_sprite0,
      frameSwap_overflow, hsprite0, hoverflow, flagEvents_ppu]
    exact ⟨rfl, rfl, rfl⟩
  · rw [ppuPulse_eq_setPpu h]
    rfl
  · rw [ppuPulse_eq_setPpu h]
    rfl
  · rw [ppuPulse_vblank, flagEvents_ppu, if_neg h, if_neg h']

/-- Settles O47: the background step alone, field by field, with its addresses and registers as sums. -/
theorem backgroundPipeline : Obligations.BackgroundPipeline := by
  intro s hmask hline p q c inWindow at_ table nt cx cy fy v1 v2 v3
  obtain ⟨henabled, hrender⟩ : renderingEnabled s.ppu = true ∧ renderingLine s.ppu.scanline = true := by
    rw [← Bool.and_eq_true]
    exact (renderingActive_iff s.ppu).2 ⟨hmask, hline⟩
  have hpipe := samePipeline_ppuPulse hrender henabled
  rw [backgroundStep_eq] at hpipe
  obtain ⟨hnt, hat, hlo, hhi, hbgLo, hbgHi, hpal0, hpal1, hv, ht, hx, hw⟩ := hpipe
  have hwin : inFetchWindow c = true ↔ inWindow := inFetchWindow_iff c
  have hphase (n : Nat) : inFetchWindow c = true ∧ c % 8 = n ↔ at_ n := and_congr_left' hwin
  refine ⟨hnt.trans (if_congr (hphase 1) (congrArg (ppuRd s) (ntFetchAddr_eq p.v)) rfl),
    hat.trans (if_congr (hphase 3) ?_ rfl),
    hlo.trans (if_congr (hphase 5) (congrArg (ppuRd s) (patFetchAddr_low p)) rfl),
    hhi.trans (if_congr (hphase 7) (congrArg (ppuRd s) (patFetchAddr_high p)) rfl),
    hbgLo.trans ((shiftRegister_cycle ..).trans (if_congr (hphase 0) rfl (if_congr hwin rfl rfl))),
    hbgHi.trans ((shiftRegister_cycle ..).trans (if_congr (hphase 0) rfl (if_congr hwin rfl rfl))),
    hpal0.trans (if_congr (hphase 0) rfl rfl), hpal1.trans (if_congr (hphase 0) rfl rfl),
    hv.trans (scrolledV_eq ..), ht, hx, hw⟩
  rw [quadrantBits_eq, atFetchAddr_eq, atShift_eq]

end Sys2Proof.Machine
end

section
/-! The sprite step of a pulse, window by window (48_ppu_sprites_output.md R380 to R391): what the clear, the scan and the
fetch leave in the sprite memories, and the address of a sprite's pattern row as a sum. -/

namespace Sys2Proof.Machine

/-! ### The pulse -/

/-- `q` has the control byte, OAM and the sprite memories of `p` and, on a visible line, its overflow flag, which the
pre-render line clears. -/
structure SameSprites (l : Nat) (p q : Ppu) : Prop where
  ctrl : q.ctrl = p.ctrl
  oam : q.oam = p.oam
  oamAddr : q.oamAddr = p.oamAddr
  overflow : l ≤ 239 → q.overflow = p.overflow
  secEval : q.secEval = p.secEval
  secEvalCount : q.secEvalCount = p.secEvalCount
  secEvalHasZero : q.secEvalHasZero = p.secEvalHasZero
  secRend : q.secRend = p.secRend
  secRendCount : q.secRendCount = p.secRendCount
  secRendHasZero : q.secRendHasZero = p.secRendHasZero
  sprLo : q.sprLo = p.sprLo
  sprHi : q.sprHi = p.sprHi

theorem SameSprites.trans {l : Nat} {p q r : Ppu} (h : SameSprites l p q) (h' : SameSprites l q r) :
    SameSprites l p r :=
  ⟨h'.ctrl.trans h.ctrl, h'.oam.trans h.oam, h'.oamAddr.trans h.oamAddr,
    fun hl => (h'.overflow hl).trans (h.overflow hl), h'.secEval.trans h.secEval,
    h'.secEvalCount.trans h.secEvalCount, h'.secEvalHasZero.trans h.secEvalHasZero, h'.secRend.trans h.secRend,
    h'.secRendCount.trans h.secRendCount, h'.secRendHasZero.trans h.secRendHasZero, h'.sprLo.trans h.sprLo,
    h'.sprHi.trans h.sprHi⟩

/-- The two fetches of a slot's eight cycles (R388). -/
theorem spriteFetchStep_eq (l c : Nat) (s : State) :
    spriteFetchStep l c s = s.setPpu { s.ppu with
      sprLo := if (c - 257) % 8 = 4
        then s.ppu.sprLo.write unlistedByte ((c - 257) / 8) (spritePattern l ((c - 257) / 8) false s) else s.ppu.sprLo
      sprHi := if (c - 257) % 8 = 6
        then s.ppu.sprHi.write unlistedByte ((c - 257) / 8) (spritePattern l ((c - 257) / 8) true s)
        else s.ppu.sprHi } := by
  have h8 : (c - 257) % 8 < 8 := Nat.mod_lt _ (by decide)
  unfold spriteFetchStep
  generalize (c - 257) % 8 = phase at h8
  interval_cases phase <;> rfl

theorem spriteStep_clear {l c : Nat} {s : State} (h : 1 ≤ c ∧ c ≤ 64) :
    spriteStep l c s = s.setPpu (clearStep c s.ppu) := if_pos h

theorem spriteStep_scan {l c : Nat} {s : State} (h : 65 ≤ c ∧ c ≤ 256) (hl : l ≤ 239) :
    spriteStep l c s = s.setPpu (scanStep l c s.ppu) := by
  rw [spriteStep, if_neg (by omega), if_pos h, if_pos hl]

theorem spriteStep_fetch {l c : Nat} {s : State} (h : 257 ≤ c ∧ c ≤ 320) :
    spriteStep l c s = s.setPpu { s.ppu with
      oamAddr := 0#8
      secRend := if c = 257 then s.ppu.secEval else s.ppu.secRend
      secRendCount := if c = 257 then s.ppu.secEvalCount else s.ppu.secRendCount
      secRendHasZero := if c = 257 then s.ppu.secEvalHasZero else s.ppu.secRendHasZero
      sprLo := if (c - 257) % 8 = 4
        then s.ppu.sprLo.write unlistedByte ((c - 257) / 8) (spritePattern l ((c - 257) / 8) false s) else s.ppu.sprLo
      sprHi := if (c - 257) % 8 = 6
        then s.ppu.sprHi.write unlistedByte ((c - 257) / 8) (spritePattern l ((c - 257) / 8) true s)
        else s.ppu.sprHi } := by
  rw [spriteStep, if_neg (by omega), if_neg (by omega), if_pos h]
  simp only [spriteFetchStep_eq]
  by_cases hlatch : c = 257
  · subst hlatch
    rfl
  · simp only [if_neg hlatch]
    rfl

theorem scanStep_at {l n : Nat} (p : Ppu) (hn : n < 64) : scanStep l (65 + 3 * n) p = examineSprite l n p := by
  have hentry : (65 + 3 * n - 65) / 3 = n := by omega
  rw [scanStep, hentry, if_pos (by omega)]

theorem scanStep_between {l c : Nat} (p : Ppu) (h65 : 65 ≤ c) (h : ∀ n, n < 64 → c ≠ 65 + 3 * n) :
    scanStep l c p = p := by
  refine if_neg fun hexamined => h ((c - 65) / 3) ?_ ?_ <;> omega

theorem spriteStep_sprLo {l c : Nat} {s : State} (h : 257 ≤ c ∧ c ≤ 320) :
    (spriteStep l c s).ppu.sprLo = if (c - 257) % 8 = 4
      then s.ppu.sprLo.write unlistedByte ((c - 257) / 8) (spritePattern l ((c - 257) / 8) false s)
      else s.ppu.sprLo := by
  rw [spriteStep_fetch h, State.setPpu_ppu]

theorem spriteStep_sprHi {l c : Nat} {s : State} (h : 257 ≤ c ∧ c ≤ 320) :
    (spriteStep l c s).ppu.sprHi = if (c - 257) % 8 = 6
      then s.ppu.sprHi.write unlistedByte ((c - 257) / 8) (spritePattern l ((c - 257) / 8) true s)
      else s.ppu.sprHi := by
  rw [spriteStep_fetch h, State.setPpu_ppu]

/-- Between the windows, and in the scan of the pre-render line, the sprite step does nothing. -/
theorem spriteStep_idle {l c : Nat} {s : State} (hclear : ¬(1 ≤ c ∧ c ≤ 64)) (hscan : ¬(65 ≤ c ∧ c ≤ 256 ∧ l ≤ 239))
    (hfetch : ¬(257 ≤ c ∧ c ≤ 320)) : spriteStep l c s = s := by
  rw [spriteStep, if_neg hclear, if_neg hfetch, ite_eq_right_iff]
  exact fun h65 => if_neg fun hl => hscan ⟨h65.1, h65.2, hl⟩

/-- The sprite step reads of the PPU only what `SameSprites` speaks of. -/
theorem SameSprites.spriteStep {l : Nat} {s : State} {q : Ppu} (h : SameSprites l s.ppu q) (c : Nat) :
    SameSprites l (spriteStep l c s).ppu (spriteStep l c (s.setPpu q)).ppu := by
  obtain ⟨cpu, p, ram, vram, cart, mapper, pad1, pad2, params, inputs⟩ := s
  cases p
  cases q
  obtain ⟨rfl, rfl, rfl, hoverflow, rfl, rfl, rfl, rfl, rfl, rfl, rfl, rfl⟩ := h
  by_cases hclear : 1 ≤ c ∧ c ≤ 64
  · rw [spriteStep_clear hclear, spriteStep_clear hclear, clearStep_eq, clearStep_eq]
    exact ⟨rfl, rfl, rfl, hoverflow, rfl, rfl, rfl, rfl, rfl, rfl, rfl, rfl⟩
  by_cases hscan : 65 ≤ c ∧ c ≤ 256 ∧ l ≤ 239
  · obtain ⟨h65, h256, hl⟩ := hscan
    obtain rfl := hoverflow hl
    rw [spriteStep_scan ⟨h65, h256⟩ hl, spriteStep_scan ⟨h65, h256⟩ hl]
    unfold scanStep
    split
    · rw [examineSprite_eq, examineSprite_eq]
      exact ⟨rfl, rfl, rfl, fun _ => rfl, rfl, rfl, rfl, rfl, rfl, rfl, rfl, rfl⟩
    · exact ⟨rfl, rfl, rfl, fun _ => rfl, rfl, rfl, rfl, rfl, rfl, rfl, rfl, rfl⟩
  by_cases hfetch : 257 ≤ c ∧ c ≤ 320
  · rw [spriteStep_fetch hfetch, spriteStep_fetch hfetch]
    exact ⟨rfl, rfl, rfl, hoverflow, rfl, rfl, rfl, rfl, rfl, rfl, rfl, rfl⟩
  · rw [spriteStep_idle hclear hscan hfetch, spriteStep_idle hclear hscan hfetch]
    exact ⟨rfl, rfl, rfl, hoverflow, rfl, rfl, rfl, rfl, rfl, rfl, rfl, rfl⟩

/-- The clear of the flags, the pixel and the background step write nothing the sprite step reads. -/
theorem sameSprites_beforeSprites (s : State) :
    SameSprites s.ppu.scanline s.ppu
      (backgroundStep s.ppu.scanline s.ppu.cycle (s.setPpu (beforeBackground s))).ppu := by
  rw [backgroundStep_eq, beforeBackground_eq]
  exact ⟨rfl, rfl, rfl, fun hvisible => beforeBackground_overflow s (by omega), rfl, rfl, rfl, rfl, rfl, rfl, rfl, rfl⟩

/-- The frame swap and the counters write nothing of the sprites. -/
theorem sameSprites_afterSprites (l c : Nat) (p : Ppu) : SameSprites l p (advance (frameSwap l c p)) := by
  rw [advance_eq, frameSwap_eq]
  exact ⟨rfl, rfl, rfl, fun _ => rfl, rfl, rfl, rfl, rfl, rfl, rfl, rfl, rfl⟩

/-- A rendering pulse leaves in OAM and the sprite memories what the sprite step alone does. -/
theorem sameSprites_ppuPulse {s : State} (hactive : renderingActive s.ppu = true) :
    SameSprites s.ppu.scanline (spriteStep s.ppu.scanline s.ppu.cycle s).ppu (ppuPulse s).ppu := by
  rw [renderingActive, Bool.and_eq_true] at hactive
  obtain ⟨he, hl⟩ := hactive
  have hbefore : backgroundStep s.ppu.scanline s.ppu.cycle (s.setPpu (beforeBackground s)) =
      s.setPpu (backgroundStep s.ppu.scanline s.ppu.cycle (s.setPpu (beforeBackground s))).ppu :=
    eq_setPpu_of _ (backgroundStep_eq ..)
  rw [ppuPulse_on s hl he, hbefore]
  exact ((sameSprites_beforeSprites s).spriteStep _).trans (sameSprites_afterSprites ..)

/-- Up to cycle 256 no sprite step writes `oamAddr`. -/
theorem spriteStep_oamAddr {l c : Nat} {s : State} (hc : c ≤ 256) :
    (spriteStep l c s).ppu.oamAddr = s.ppu.oamAddr := by
  by_cases hclear : 1 ≤ c ∧ c ≤ 64
  · rw [spriteStep_clear hclear, clearStep_eq]
    rfl
  by_cases hscan : 65 ≤ c ∧ c ≤ 256 ∧ l ≤ 239
  · obtain ⟨h65, h256, hl⟩ := hscan
    rw [spriteStep_scan ⟨h65, h256⟩ hl, scanStep]
    split
    · rw [examineSprite_eq]
      rfl
    · rfl
  · rw [spriteStep_idle hclear hscan (by omega)]

/-- Up to cycle 256 no pulse writes OAM or `oamAddr`. -/
theorem ppuPulse_oam {s : State} (he : renderingEnabled s.ppu = true) (hc : s.ppu.cycle ≤ 256) :
    (ppuPulse s).ppu.oam = s.ppu.oam ∧ (ppuPulse s).ppu.oamAddr = s.ppu.oamAddr := by
  cases hl : renderingLine s.ppu.scanline with
  | true =>
    have hpulse := sameSprites_ppuPulse (s := s) (by rw [renderingActive, he, hl]; rfl)
    exact ⟨hpulse.oam.trans (spriteStep_oam ..), hpulse.oamAddr.trans (spriteStep_oamAddr hc)⟩
  | false =>
    rw [ppuPulse_ppu, renderWork_off _ _ _ (.inl hl), advance_oam, advance_oamAddr, frameSwap_oam, frameSwap_oamAddr,
      flagEvents_ppu]
    split_ifs <;> exact ⟨rfl, rfl⟩

/-! ### The clear and the scan -/

/-- Byte `k` of the evaluation side is cleared at cycle `2 * (k + 1)` (R381). -/
theorem read_cleared {m : Memory} (h : m.wf unlistedSecondary 32 = true) {c : Nat} (hc : 1 ≤ c) (k : Nat) :
    (if c % 2 = 0 then m.write unlistedSecondary (c / 2 - 1) 0xFF#8 else m).read unlistedSecondary k =
      if c = 2 * (k + 1) then 0xFF#8 else m.read unlistedSecondary k := by
  by_cases heven : c % 2 = 0
  · rw [if_pos heven, Memory.read_write h]
    exact if_congr (by omega) rfl rfl
  · rw [if_neg heven, if_neg (by omega)]

/-- From cycle 65 on, where no entry is examined, the sprite step leaves the evaluation side and the overflow flag. -/
theorem spriteStep_keepsEvaluation {l c : Nat} (s : State) (h65 : 65 ≤ c)
    (h : l ≤ 239 → ∀ n, n < 64 → c ≠ 65 + 3 * n) :
    (spriteStep l c s).ppu.secEval = s.ppu.secEval ∧ (spriteStep l c s).ppu.secEvalCount = s.ppu.secEvalCount ∧
      (spriteStep l c s).ppu.secEvalHasZero = s.ppu.secEvalHasZero ∧
      (spriteStep l c s).ppu.overflow = s.ppu.overflow := by
  by_cases hscan : 65 ≤ c ∧ c ≤ 256 ∧ l ≤ 239
  · obtain ⟨-, h256, hl⟩ := hscan
    rw [spriteStep_scan ⟨h65, h256⟩ hl, scanStep_between _ h65 (h hl)]
    exact ⟨rfl, rfl, rfl, rfl⟩
  by_cases hfetch : 257 ≤ c ∧ c ≤ 320
  · rw [spriteStep_fetch hfetch]
    exact ⟨rfl, rfl, rfl, rfl⟩
  · rw [spriteStep_idle (by omega) hscan hfetch]
    exact ⟨rfl, rfl, rfl, rfl⟩

/-- At cycle `65 + 3n` of a visible line the sprite step is the examination of entry `n` (R382). -/
theorem spriteStep_examine {l n : Nat} {s : State} (hl : l ≤ 239) (hn : n < 64) :
    spriteStep l (65 + 3 * n) s = s.setPpu (examineSprite l n s.ppu) := by
  rw [spriteStep_scan (by omega) hl, scanStep_at _ hn]

theorem inRange_iff (p : Ppu) (l : Nat) (y : Byte) :
    inRange p l y = true ↔ y.toNat ≤ l ∧ l < y.toNat + (if p.ctrl.getLsbD 5 then 16 else 8) := by
  rw [inRange, Bool.and_eq_true, decide_eq_true_eq, decide_eq_true_eq, Ppu.spTall]
  split_ifs <;> omega

/-- The four bytes of entry `n` stand at the slot it was copied to (R382). -/
theorem read_copiedSprite {p : Ppu} (h : p.secEval.wf unlistedSecondary 32 = true) (n k : Nat)
    (hcount : p.secEvalCount < 8) :
    (copiedSprite n p).read unlistedSecondary k =
      if 4 * p.secEvalCount ≤ k ∧ k < 4 * p.secEvalCount + 4 then oamRead p (4 * n + (k - 4 * p.secEvalCount))
      else secEvalRead p k := by
  have h1 := Memory.wf_write (a := 4 * p.secEvalCount) (v := oamRead p (4 * n)) h (by omega)
  have h2 := Memory.wf_write (a := 4 * p.secEvalCount + 1) (v := oamRead p (4 * n + 1)) h1 (by omega)
  have h3 := Memory.wf_write (a := 4 * p.secEvalCount + 2) (v := oamRead p (4 * n + 2)) h2 (by omega)
  rw [copiedSprite, Memory.read_write h3, Memory.read_write h2, Memory.read_write h1, Memory.read_write h]
  by_cases hk : 4 * p.secEvalCount ≤ k ∧ k < 4 * p.secEvalCount + 4
  · obtain ⟨j, rfl⟩ := Nat.exists_eq_add_of_le hk.1
    have hj : j < 4 := by omega
    rw [if_pos hk]
    interval_cases j <;> simp
  · rw [if_neg hk, if_neg (by omega), if_neg (by omega), if_neg (by omega), if_neg (by omega)]
    rfl

/-! ### The pattern bytes -/

theorem rev8_getLsbD (b : Byte) {i : Nat} (hi : i < 8) : (rev8 b).getLsbD i = b.getLsbD (7 - i) := by
  simp only [rev8, BitVec.getLsbD_append]
  interval_cases i <;> simp

/-- The row masked with the low bits `m` and, for a vertically flipped sprite, counted from the bottom (R389). -/
def flippedRow (m : Byte) (flip : Bool) (row : Byte) : Byte := if flip then m - (row &&& m) else row &&& m

theorem flippedRow_toNat {m : Byte} (hm : ∀ n, n &&& m.toNat = n % (m.toNat + 1)) (flip : Bool) (row : Byte) :
    (flippedRow m flip row).toNat =
      if flip then m.toNat - row.toNat % (m.toNat + 1) else row.toNat % (m.toNat + 1) := by
  have hmask : (row &&& m).toNat = row.toNat % (m.toNat + 1) := by rw [BitVec.toNat_and, hm]
  cases flip with
  | true =>
    have hle : row &&& m ≤ m := BitVec.le_def.2 (by rw [hmask]; exact Nat.le_of_lt_succ (Nat.mod_lt _ (by omega)))
    exact (BitVec.toNat_sub_of_le hle).trans (by rw [hmask, if_pos rfl])
  | false => exact hmask

theorem flippedRow_short (flip : Bool) (row : Byte) :
    (flippedRow 7#8 flip row).toNat = if flip then 7 - row.toNat % 8 else row.toNat % 8 :=
  flippedRow_toNat (m := 7#8) (fun n => Nat.and_two_pow_sub_one_eq_mod n 3) flip row

theorem flippedRow_tall (flip : Bool) (row : Byte) :
    (flippedRow 15#8 flip row).toNat = if flip then 15 - row.toNat % 16 else row.toNat % 16 :=
  flippedRow_toNat (m := 15#8) (fun n => Nat.and_two_pow_sub_one_eq_mod n 4) flip row

/-- A pattern row's address is its table, its tile and its row side by side. -/
theorem patternRowAddr_eq (table : Bool) (tile : Byte) {r : Byte} (hr : r.toNat < 8) :
    (if table then 0x1000#14 else 0#14) ||| (tile.setWidth 14 <<< 4) ||| r.setWidth 14 =
      BitVec.ofNat 14 ((if table then 4096 else 0) + 16 * tile.toNat + r.toNat) := by
  have hrow : r = (r.setWidth 3).setWidth 8 := BitVec.eq_of_toNat_eq (by simp; omega)
  have hfields (x : BitVec 3) : (if table then 0x1000#14 else 0#14) ||| (tile.setWidth 14 <<< 4) |||
      (x.setWidth 8).setWidth 14 = 0#1 ++ (BitVec.ofBool table ++ (tile ++ (0#1 ++ x))) := by
    refine BitVec.eq_of_getLsbD_eq fun i hi => ?_
    simp only [BitVec.getLsbD_append]
    cases table <;> interval_cases i <;> simp
  rw [hrow, hfields, append_eq_ofNat, append_toNat, append_toNat, append_toNat, ← hrow]
  refine congrArg (BitVec.ofNat 14) ?_
  cases table <;> simp <;> omega

/-- The tile of a 16-line sprite's upper or lower half: bit 3 of the row takes the place of bit 0 (R389). -/
theorem tallTile_toNat (tile : Byte) {r : Byte} (hr : r.toNat < 16) :
    ((tile &&& 0xFE#8) ||| (r >>> 3)).toNat = tile.toNat / 2 * 2 + r.toNat / 8 := by
  have hhalf : r >>> 3 = (BitVec.ofNat 1 (r.toNat / 8)).setWidth 8 := BitVec.eq_of_toNat_eq (by simp; omega)
  have hfields (x : BitVec 1) : (tile &&& 0xFE#8) ||| x.setWidth 8 = tile.extractLsb' 1 7 ++ x := by
    refine BitVec.eq_of_getLsbD_eq fun i hi => ?_
    simp only [BitVec.getLsbD_append]
    interval_cases i <;> simp
  rw [hhalf, hfields, append_toNat, BitVec.extractLsb'_toNat, Nat.shiftRight_eq_div_pow, BitVec.toNat_ofNat]
  omega

/-- The address of a pattern row of 8-line sprites (R389). -/
theorem spriteRowAddr_short {p : Ppu} (h : p.spTall = false) (row tile attr : Byte) :
    spriteRowAddr p row tile attr = BitVec.ofNat 14 ((if p.ctrl.getLsbD 3 then 4096 else 0) + 16 * tile.toNat +
      if attr.getLsbD 7 then 7 - row.toNat % 8 else row.toNat % 8) := by
  have hlt : (flippedRow 7#8 (attr.getLsbD 7) row).toNat < 8 := by
    rw [flippedRow_short]
    split <;> omega
  rw [← flippedRow_short, ← Ppu.spTable, ← patternRowAddr_eq p.spTable tile hlt, spriteRowAddr, h]
  rfl

/-- The address of a pattern row of 16-line sprites (R389): the table is bit 0 of the tile. -/
theorem spriteRowAddr_tall {p : Ppu} (h : p.spTall = true) (row tile attr : Byte) :
    spriteRowAddr p row tile attr =
      let r := if attr.getLsbD 7 then 15 - row.toNat % 16 else row.toNat % 16
      BitVec.ofNat 14 (4096 * (tile.toNat % 2) + 16 * (tile.toNat / 2 * 2 + r / 8) + r % 8) := by
  have hlt : (flippedRow 15#8 (attr.getLsbD 7) row).toNat < 16 := by
    rw [flippedRow_tall]
    split <;> omega
  have hfine : (flippedRow 15#8 (attr.getLsbD 7) row &&& 7#8).toNat =
      (flippedRow 15#8 (attr.getLsbD 7) row).toNat % 8 := by
    rw [BitVec.toNat_and]
    exact Nat.and_two_pow_sub_one_eq_mod _ 3
  have htable : (if tile.getLsbD 0 then 4096 else 0) = 4096 * (tile.toNat % 2) := by
    simp only [BitVec.getLsbD, Nat.testBit_zero, decide_eq_true_eq]
    split <;> omega
  simp only
  rw [← flippedRow_tall, ← tallTile_toNat tile hlt, ← hfine, ← htable, ← patternRowAddr_eq _ _ (by omega),
    spriteRowAddr, h]
  rfl

/-- The row `L - y` of an entry at or above the line, as a byte (R389). -/
theorem spriteRow_mod {l : Nat} {y : Byte} (h : y.toNat ≤ l) :
    (BitVec.ofNat 8 l - y).toNat % 8 = (l - y.toNat) % 8 ∧ (BitVec.ofNat 8 l - y).toNat % 16 = (l - y.toNat) % 16 := by
  rw [BitVec.toNat_sub, BitVec.toNat_ofNat]
  omega

/-- The address of the low byte of the pattern row that slot `k` fetches on line `l` (R388, R389), as a sum. -/
def slotRowAddr (p : Ppu) (l k : Nat) : Nat :=
  let y := (secRendRead p (4 * k)).toNat
  let tile := (secRendRead p (4 * k + 1)).toNat
  let attr := secRendRead p (4 * k + 2)
  let row := l - y
  let r8 := if attr.getLsbD 7 then 7 - row % 8 else row % 8
  let r16 := if attr.getLsbD 7 then 15 - row % 16 else row % 16
  if p.ctrl.getLsbD 5 then 4096 * (tile % 2) + 16 * (tile / 2 * 2 + r16 / 8) + r16 % 8
  else (if p.ctrl.getLsbD 3 then 4096 else 0) + 16 * tile + r8

theorem spriteRowAddr_slot {p : Ppu} {l k : Nat} (h : (secRendRead p (4 * k)).toNat ≤ l) :
    spriteRowAddr p (BitVec.ofNat 8 l - secRendRead p (4 * k)) (secRendRead p (4 * k + 1)) (secRendRead p (4 * k + 2)) =
      BitVec.ofNat 14 (slotRowAddr p l k) := by
  obtain ⟨h8, h16⟩ := spriteRow_mod h
  cases htall : p.spTall with
  | true =>
    rw [spriteRowAddr_tall htall, h16, slotRowAddr, ← Ppu.spTall, htall]
    rfl
  | false =>
    rw [spriteRowAddr_short htall, h8, slotRowAddr, ← Ppu.spTall, htall]
    rfl

theorem spritePattern_empty {l k : Nat} {high : Bool} {s : State} (h : s.ppu.secRendCount ≤ k) :
    spritePattern l k high s = 0#8 := if_neg (Nat.not_lt.2 h)

/-- A slot in use holds the byte at its row's address, mirrored when its attribute says so (R388, R390). -/
theorem spritePattern_getLsbD {l k : Nat} {s : State} (hk : k < s.ppu.secRendCount)
    (hy : (secRendRead s.ppu (4 * k)).toNat ≤ l) (high : Bool) {i : Nat} (hi : i < 8) :
    (spritePattern l k high s).getLsbD i =
      let b := ppuRd s (BitVec.ofNat 14 (slotRowAddr s.ppu l k + if high then 8 else 0))
      if (secRendRead s.ppu (4 * k + 2)).getLsbD 6 then b.getLsbD (7 - i) else b.getLsbD i := by
  have haddr : (if high then BitVec.ofNat 14 (slotRowAddr s.ppu l k) + 8#14 else BitVec.ofNat 14 (slotRowAddr s.ppu l k))
      = BitVec.ofNat 14 (slotRowAddr s.ppu l k + if high then 8 else 0) := by
    cases high with
    | true => exact (BitVec.ofNat_add ..).symm
    | false => rfl
  rw [spritePattern, if_pos hk]
  simp only [spriteRowAddr_slot hy, haddr]
  split
  · exact rev8_getLsbD _ hi
  · rfl

/-! ### The sprite pixel -/

/-- What `SpritePixel` returns for slot `k` when it is the first opaque one (R395). -/
def slotDot (p : Ppu) (col k : Nat) : SpriteDot where
  value := slotPixel p col k
  palette := (secRendRead p (4 * k + 2)).setWidth 2
  behind := (secRendRead p (4 * k + 2)).getLsbD 5
  isZero := decide (k = 0) && p.secRendHasZero

theorem slotPixel_toNat (p : Ppu) (col k : Nat) : (slotPixel p col k).toNat =
    let x := (secRendRead p (4 * k + 3)).toNat
    if x ≤ col ∧ col ≤ x + 7 then
      2 * ((p.sprHi.read unlistedByte k).getLsbD (7 - (col - x))).toNat +
        ((p.sprLo.read unlistedByte k).getLsbD (7 - (col - x))).toNat
    else 0 := by
  simp only [slotPixel, Nat.sub_le_iff_le_add']
  split
  · rw [append_toNat, BitVec.toNat_ofBool, BitVec.toNat_ofBool, Nat.pow_one]
  · rfl

theorem spritePixelFrom_transparent {p : Ppu} {col n k : Nat}
    (h : ∀ j, k ≤ j → j < k + n → slotPixel p col j = 0#2) : spritePixelFrom p col n k = SpriteDot.none := by
  induction n generalizing k with
  | zero => rfl
  | succ n ih =>
    rw [spritePixelFrom, if_pos (h k (Nat.le_refl k) (by omega))]
    exact ih fun j hj hn => h j (by omega) (by omega)

theorem spritePixelFrom_opaque {p : Ppu} {col n k m : Nat} (hk : k ≤ m) (hm : m < k + n)
    (hopaque : slotPixel p col m ≠ 0#2) (hfirst : ∀ j, k ≤ j → j < m → slotPixel p col j = 0#2) :
    spritePixelFrom p col n k = slotDot p col m := by
  induction n generalizing k with
  | zero => omega
  | succ n ih =>
    obtain rfl | hlt := Nat.eq_or_lt_of_le hk
    · exact if_neg hopaque
    · rw [spritePixelFrom, if_pos (hfirst k (Nat.le_refl k) hlt)]
      exact ih hlt (by omega) fun j hj hjm => hfirst j (by omega) hjm

end Sys2Proof.Machine
end

section
/-! The statements of 48_ppu_sprites_output.md about evaluation, fetch and the sprite pixel. -/

namespace Sys2Proof.Machine

/-- Settles O48: the clear and the scan of the sprite step alone, the scan one entry at a time. -/
theorem spriteEvaluation : Obligations.SpriteEvaluation := by
  intro s hmask hwf p q l c kept
  have hpulse (hl : l ≤ 239 ∨ l = 261) : SameSprites l (spriteStep l c s).ppu q :=
    sameSprites_ppuPulse ((renderingActive_iff s.ppu).2 ⟨hmask, hl⟩)
  refine ⟨ppuPulse_oam ((renderingEnabled_iff p).2 hmask), fun hl h1 h64 => ?_, fun hl h65 => ?_,
    fun hl h65 hbetween => ?_, fun n hl hn hc => ?_⟩
  · have hclear := hpulse hl
    rw [spriteStep_clear ⟨h1, h64⟩, clearStep_eq] at hclear
    refine ⟨hclear.secEvalCount, hclear.secEvalHasZero, fun k => ?_⟩
    rw [secEvalRead, hclear.secEval]
    exact read_cleared hwf h1 k
  · have hkept := hpulse (.inr hl)
    obtain ⟨hmem, hcount, hzero, -⟩ := spriteStep_keepsEvaluation (l := l) s h65 (by omega)
    exact ⟨hkept.secEval.trans hmem, hkept.secEvalCount.trans hcount, hkept.secEvalHasZero.trans hzero⟩
  · have hkept := hpulse (.inl hl)
    obtain ⟨hmem, hcount, hzero, hflag⟩ := spriteStep_keepsEvaluation (l := l) s h65 fun _ => hbetween
    exact ⟨⟨hkept.secEval.trans hmem, hkept.secEvalCount.trans hcount, hkept.secEvalHasZero.trans hzero⟩,
      (hkept.overflow hl).trans hflag⟩
  · have hexamined := hpulse (.inl hl)
    rw [hc, spriteStep_examine hl hn] at hexamined
    intro y inside
    have hin : inRange p l (oamRead p (4 * n)) = true ↔ inside := inRange_iff ..
    refine ⟨fun h => ?_, fun h hfull => ?_, fun h hroom => ?_⟩
    · rw [examineSprite, if_neg (mt hin.1 h)] at hexamined
      exact ⟨⟨hexamined.secEval, hexamined.secEvalCount, hexamined.secEvalHasZero⟩, hexamined.overflow hl⟩
    · rw [examineSprite, if_pos (hin.2 h), if_neg (Nat.not_lt.2 hfull)] at hexamined
      exact ⟨⟨hexamined.secEval, hexamined.secEvalCount, hexamined.secEvalHasZero⟩, hexamined.overflow hl⟩
    · rw [examineSprite, if_pos (hin.2 h), if_pos hroom, copySprite_eq] at hexamined
      refine ⟨hexamined.overflow hl, hexamined.secEvalCount, hexamined.secEvalHasZero.trans ?_, fun k => ?_⟩
      · exact (Bool.if_true_left (n = 0) _).trans (Bool.or_comm ..)
      · rw [secEvalRead, hexamined.secEval]
        exact read_copiedSprite hwf n k hroom

/-- Settles O49: the latch and the two pattern fetches of the sprite step alone. -/
theorem spriteFetch : Obligations.SpriteFetch := by
  intro s hmask hline h257 h320 hlo hhi p q c slot phase y tile attr row r8 r16 base flipped holds
  have hpulse : SameSprites p.scanline (spriteStep p.scanline c s).ppu q :=
    sameSprites_ppuPulse ((renderingActive_iff s.ppu).2 ⟨hmask, hline⟩)
  have hsprLo : q.sprLo = if phase = 4 then p.sprLo.write unlistedByte slot (spritePattern p.scanline slot false s)
      else p.sprLo := hpulse.sprLo.trans (spriteStep_sprLo ⟨h257, h320⟩)
  have hsprHi : q.sprHi = if phase = 6 then p.sprHi.write unlistedByte slot (spritePattern p.scanline slot true s)
      else p.sprHi := hpulse.sprHi.trans (spriteStep_sprHi ⟨h257, h320⟩)
  have hwritten {m : Memory} (hm : m.wf unlistedByte Config.slotCount = true) (high : Bool) :
      holds (m.write unlistedByte slot (spritePattern p.scanline slot high s)) m (if high then 8 else 0) := by
    refine ⟨fun k hk => ?_, fun hempty => ?_, fun hused hy i hi => ?_⟩
    · rw [Memory.read_write hm, if_neg hk]
    · rw [Memory.read_write hm, if_pos rfl, spritePattern_empty hempty]
    · rw [Memory.read_write hm, if_pos rfl, spritePattern_getLsbD hused hy high hi]
      rfl
  rw [spriteStep_fetch ⟨h257, h320⟩] at hpulse
  refine ⟨hpulse.oamAddr, fun h => ?_, fun h => ?_, fun h => ?_, fun h => hsprLo.trans (if_neg h), fun h => ?_,
    fun h => hsprHi.trans (if_neg h)⟩
  · exact ⟨hpulse.secRend.trans (if_pos h), hpulse.secRendCount.trans (if_pos h), hpulse.secRendHasZero.trans (if_pos h)⟩
  · exact ⟨hpulse.secRend.trans (if_neg h), hpulse.secRendCount.trans (if_neg h), hpulse.secRendHasZero.trans (if_neg h)⟩
  · rw [hsprLo, if_pos h]
    exact hwritten hlo false
  · rw [hsprHi, if_pos h]
    exact hwritten hhi true

/-- Settles O50: the slots are searched in ascending order, and the first opaque one answers. -/
theorem spritePixelIsFirstOpaque : Obligations.SpritePixelIsFirstOpaque := by
  intro p col pixel
  have hpixel (k : Nat) : (slotPixel p col k).toNat = pixel k := slotPixel_toNat p col k
  have htransparent (k : Nat) : slotPixel p col k = 0#2 ↔ pixel k = 0 := by
    rw [← hpixel, BitVec.toNat_eq]
    rfl
  refine ⟨fun h => ?_, fun k hk hopaque hfirst => ?_⟩
  · exact spritePixelFrom_transparent fun j _ hj => (htransparent j).2 (h j (by omega))
  · have hdot := spritePixelFrom_opaque (Nat.zero_le k) (hk.trans_eq (Nat.zero_add _).symm)
      (mt (htransparent k).1 hopaque) fun j _ hj => (htransparent j).2 (hfirst j hj)
    rw [← hpixel, BitVec.ofNat_toNat, BitVec.ofNat_toNat, BitVec.setWidth_eq]
    exact hdot

end Sys2Proof.Machine
end

section
/-! OAM DMA (49_dma_controllers.md R420 to R422) as a loop over the 256 byte numbers, and what it leaves in OAM when
reading its page has no side effects. -/

namespace Sys2Proof.Machine

/-! ### The loop -/

/-- The address of byte `i` of a page. -/
def pageAddr (page : Byte) (i : Nat) : Addr := BitVec.ofNat 16 (256 * page.toNat + i)

/-- The body of the DMA loop: byte `i` of `page` is read and stored at `base + i` modulo 256. -/
def dmaStore (page base : Byte) (u : State) (i : Nat) : State :=
  (busTouch u (pageAddr page i)).setPpu
    (oamWrite (busTouch u (pageAddr page i)).ppu ((base.toNat + i) % 256) (busPeek u (pageAddr page i)))

theorem word16_eq_pageAddr (page : Byte) {i : Nat} (hi : i < 256) : word16 page (BitVec.ofNat 8 i) = pageAddr page i :=
  BitVec.eq_of_toNat_eq (by rw [word16_toNat, pageAddr, BitVec.toNat_ofNat, BitVec.toNat_ofNat]; omega)

theorem ppuRegTouch_oamAddr (s : State) (r : Nat) : (ppuRegTouch s r).ppu.oamAddr = s.ppu.oamAddr := by
  unfold ppuRegTouch
  split
  · rfl
  · rw [State.setPpu_ppu, incV_eq_setV]
  · rfl

theorem busTouch_oamAddr (s : State) (a : Addr) : (busTouch s a).ppu.oamAddr = s.ppu.oamAddr := by
  cases hreg : busRegion a with
  | ppu => rw [busTouch_of_ppu hreg, ppuRegTouch_oamAddr]
  | pad1 => rw [busTouch_of_pad1 hreg, State.setPad1_ppu]
  | pad2 => rw [busTouch_of_pad2 hreg, State.setPad2_ppu]
  | _ => rw [busTouch, hreg]

theorem dmaStore_oamAddr (page base : Byte) (u : State) (i : Nat) :
    (dmaStore page base u i).ppu.oamAddr = u.ppu.oamAddr := busTouch_oamAddr ..

theorem dmaByte_eq_dmaStore (page : Byte) {i : Nat} (hi : i < 256) (s : State) :
    dmaByte page (BitVec.ofNat 8 i) s = dmaStore page s.ppu.oamAddr s i := by
  have hcell : (s.ppu.oamAddr + BitVec.ofNat 8 i).toNat = (s.ppu.oamAddr.toNat + i) % 256 := by
    rw [BitVec.toNat_add, BitVec.toNat_ofNat]
    omega
  simp only [dmaByte, dmaStore, word16_eq_pageAddr page hi, busTouch_oamAddr, hcell]

theorem dmaBytes_oamAddr (page : Byte) (n i : Nat) (s : State) :
    (dmaBytes page n i s).ppu.oamAddr = s.ppu.oamAddr := by
  induction n generalizing i s with
  | zero => rfl
  | succ n ih => exact (ih (i + 1) _).trans (busTouch_oamAddr ..)

/-- No body of the loop moves `oamAddr`, so all 256 may count from where it stood at the write (R422). -/
theorem dmaBytes_eq_foldl (page : Byte) {n i : Nat} (h : i + n ≤ 256) (s : State) :
    dmaBytes page n i s = (List.range' i n).foldl (dmaStore page s.ppu.oamAddr) s := by
  induction n generalizing i s with
  | zero => rfl
  | succ n ih =>
    rw [dmaBytes, dmaByte_eq_dmaStore page (by omega), ih (by omega), dmaStore_oamAddr, List.range'_succ,
      List.foldl_cons]

theorem busWrite_oamDma (s : State) (page : Byte) :
    busWrite s 0x4014#16 page = stallForDma ((List.range 256).foldl (dmaStore page s.ppu.oamAddr) s) := by
  rw [List.range_eq_range', ← dmaBytes_eq_foldl page (Nat.le_refl _)]
  rfl

theorem outsideIs_stallForDma (u : State) : OutsideIs u (stallForDma u) := OutsideIs.refl u

theorem stallPulses_oamDma (s : State) : stallPulses s 0x4014#16 = if s.cpu.total % 2 = 0 then 513 else 514 := if_pos rfl

/-! ### Pages without side effects -/

/-- Below $2000 and from $6000 on a page lies in RAM or in the cartridge (20_memory.md R81). -/
theorem busRegion_quietPage {page : Byte} (hpage : page.toNat < 0x20 ∨ 0x60 ≤ page.toNat) {i : Nat} (hi : i < 256) :
    busRegion (pageAddr page i) = .ram ∨ busRegion (pageAddr page i) = .mapper := by
  have haddr : (pageAddr page i).toNat = 256 * page.toNat + i := by
    rw [← word16_eq_pageAddr page hi, word16_toNat, BitVec.toNat_ofNat, Nat.mod_eq_of_lt hi]
  obtain hlow | hhigh := hpage
  · exact .inl (busRegion_of_lt_2000 (by omega))
  · exact .inr (busRegion_of_ge_6000 (by omega))

theorem busPeek_setPpu {a : Addr} (ha : busRegion a = .ram ∨ busRegion a = .mapper) (s : State) (p : Ppu) :
    busPeek (s.setPpu p) a = busPeek s a := by
  obtain hram | hmapper := ha
  · rw [busPeek_of_ram hram, busPeek_of_ram hram]
    rfl
  · rw [busPeek_of_mapper hmapper, busPeek_of_mapper hmapper]
    rfl

theorem dmaStore_quiet {page : Byte} {i : Nat}
    (ha : busRegion (pageAddr page i) = .ram ∨ busRegion (pageAddr page i) = .mapper) (base : Byte) (s : State) (p : Ppu) :
    dmaStore page base (s.setPpu p) i =
      s.setPpu (oamWrite p ((base.toNat + i) % 256) (busPeek s (pageAddr page i))) := by
  have htouch : busTouch (s.setPpu p) (pageAddr page i) = s.setPpu p := by
    obtain hram | hmapper := ha
    · exact busTouch_of_ram hram
    · rw [busTouch, hmapper]
  rw [dmaStore, htouch, busPeek_setPpu ha]
  rfl

/-- The first `n` bytes of a quiet page change OAM alone, and each stands where it was put: no two of 256 successive
stores meet modulo 256. -/
theorem foldl_dmaStore_quiet {page : Byte} (hpage : page.toNat < 0x20 ∨ 0x60 ≤ page.toNat) (base : Byte) {s : State}
    (hwf : s.ppu.oam.wf unlistedByte Config.oamSize = true) {n : Nat} (hn : n ≤ 256) :
    ∃ p, (List.range n).foldl (dmaStore page base) s = s.setPpu p ∧ p.oam.wf unlistedByte Config.oamSize = true ∧
      ∀ i, i < n → oamRead p ((base.toNat + i) % 256) = busPeek s (pageAddr page i) := by
  induction n with
  | zero => exact ⟨s.ppu, rfl, hwf, fun i hi => absurd hi (Nat.not_lt_zero i)⟩
  | succ n ih =>
    obtain ⟨p, hfold, hp, hread⟩ := ih (by omega)
    refine ⟨oamWrite p ((base.toNat + n) % 256) (busPeek s (pageAddr page n)), ?_,
      Memory.wf_write hp (Nat.mod_lt _ (by decide)), fun i hi => ?_⟩
    · rw [List.range_succ, List.foldl_append, hfold]
      exact dmaStore_quiet (busRegion_quietPage hpage (by omega)) base s p
    · refine (Memory.read_write hp ..).trans ?_
      obtain hlt | rfl := Nat.lt_succ_iff_lt_or_eq.1 hi
      · rw [if_neg (by omega)]
        exact hread i hlt
      · exact if_pos rfl

end Sys2Proof.Machine
end

section
/-! The controller ports (49_dma_controllers.md R431 to R433): a strobe, and a read of a pad that is not strobed as a shift
of its register. -/

namespace Sys2Proof.Machine

/-! ### The strobe -/

theorem padStrobe_eq_map (v : Byte) (pad : Option Pad) : padStrobe v pad = pad.map fun p => { p with
    strobe := v.getLsbD 0, shiftReg := if v.getLsbD 0 then p.buttons else p.shiftReg } := by
  cases pad with
  | none => rfl
  | some p =>
    rw [padStrobe, Option.map_some]
    cases v.getLsbD 0 <;> rfl

theorem padPeek_strobed {p : Pad} (h : p.strobe = true) : padPeek (some p) = BitVec.ofNat 8 (p.buttons.toNat % 2) := by
  rw [padPeek, if_pos h, BitVec.getLsbD, Nat.testBit_zero]
  obtain hbit | hbit := Nat.mod_two_eq_zero_or_one p.buttons.toNat <;> rw [hbit] <;> rfl

theorem padTouch_strobed {p : Pad} (h : p.strobe = true) (tail : Bool) :
    padTouch tail (some p) = some { p with shiftReg := p.buttons } := if_pos h

/-! ### Serial reads -/

/-- The shift register after a read: one bit out at the low end, the tail in at the high end (R433). -/
def shiftIn (tail : Bool) (r : Byte) : Byte := (r >>> 1) ||| (if tail then 0x80#8 else 0#8)

theorem shiftIn_getLsbD (tail : Bool) (r : Byte) {i : Nat} (hi : i < 8) :
    (shiftIn tail r).getLsbD i = if i + 1 < 8 then r.getLsbD (i + 1) else tail := by
  cases tail <;> interval_cases i <;> simp [shiftIn]

/-- After `k` reads the register holds its bits from bit `k` on, and then the tail. -/
theorem repeat_shiftIn_getLsbD (tail : Bool) (r : Byte) (k : Nat) {i : Nat} (hi : i < 8) :
    (Nat.repeat (shiftIn tail) k r).getLsbD i = if k + i < 8 then r.getLsbD (k + i) else tail := by
  induction k generalizing i with
  | zero => rw [Nat.zero_add, if_pos hi, Nat.repeat]
  | succ k ih =>
    rw [Nat.repeat, shiftIn_getLsbD tail _ hi, Nat.add_right_comm k 1 i]
    split
    · next hlt => exact ih hlt
    · rw [if_neg (by omega)]

theorem repeat_padTouch {p : Pad} (h : p.strobe = false) (tail : Bool) (k : Nat) :
    Nat.repeat (padTouch tail) k (some p) = some { p with shiftReg := Nat.repeat (shiftIn tail) k p.shiftReg } := by
  induction k with
  | zero => rfl
  | succ k ih =>
    rw [Nat.repeat, ih, padTouch, if_neg (by simp [h])]
    rfl

/-- Read `k` after a set and a clear strobe: button `k`, then the tail. -/
theorem padPeek_serial {on off : Byte} (hon : on.getLsbD 0 = true) (hoff : off.getLsbD 0 = false) (p : Pad) (tail : Bool)
    (k : Nat) : padPeek (Nat.repeat (padTouch tail) k (padStrobe off (padStrobe on (some p)))) =
      if (if k < 8 then p.buttons.getLsbD k else tail) then 1#8 else 0#8 := by
  have hlatched : padStrobe off (padStrobe on (some p)) = some { p with strobe := false, shiftReg := p.buttons } := by
    simp only [padStrobe, hon, hoff, if_true, if_neg Bool.false_ne_true]
  rw [hlatched, repeat_padTouch rfl, padPeek, if_neg Bool.false_ne_true,
    repeat_shiftIn_getLsbD tail p.buttons k (by decide), bitByte]
  rfl

/-! ### The two ports -/

theorem busWrite_pads (s : State) (v : Byte) :
    busWrite s 0x4016#16 v = (s.setPad1 (padStrobe v s.pad1)).setPad2 (padStrobe v s.pad2) := rfl

theorem busPeek_pad1 (s : State) : busPeek s 0x4016#16 = padPeek s.pad1 := rfl

theorem busPeek_pad2 (s : State) : busPeek s 0x4017#16 = padPeek s.pad2 := rfl

theorem busTouch_pad1 (s : State) : busTouch s 0x4016#16 = s.setPad1 (padTouch s.params.controllerTail s.pad1) := rfl

theorem busTouch_pad2 (s : State) : busTouch s 0x4017#16 = s.setPad2 (padTouch s.params.controllerTail s.pad2) := rfl

theorem repeat_busTouch_pad1 (s : State) (k : Nat) : Nat.repeat (fun t => busTouch t 0x4016#16) k s =
    s.setPad1 (Nat.repeat (padTouch s.params.controllerTail) k s.pad1) := by
  induction k with
  | zero => rfl
  | succ k ih =>
    rw [Nat.repeat, ih]
    rfl

theorem repeat_busTouch_pad2 (s : State) (k : Nat) : Nat.repeat (fun t => busTouch t 0x4017#16) k s =
    s.setPad2 (Nat.repeat (padTouch s.params.controllerTail) k s.pad2) := by
  induction k with
  | zero => rfl
  | succ k ih =>
    rw [Nat.repeat, ih]
    rfl

end Sys2Proof.Machine
end

section
/-! The statements of 49_dma_controllers.md. -/

namespace Sys2Proof.Machine

/-- Settles O38: the DMA is the fold of its loop body and then the stall; over a quiet page the fold is 256 stores. -/
theorem oamDmaCopies : Obligations.OamDmaCopies := by
  intro s page t u
  have ht : t = stallForDma u := busWrite_oamDma s page
  have hout : OutsideIs u t := by
    rw [ht]
    exact outsideIs_stallForDma u
  refine ⟨hout, dmaBytes_oamAddr page 256 0 s, ?_, fun hwf hpage i hi => ?_⟩
  · exact (busWrite_cpu s 0x4014#16 page).trans (by rw [stallPulses_oamDma])
  · obtain ⟨p, hfold, -, hread⟩ := foldl_dmaStore_quiet hpage s.ppu.oamAddr hwf (Nat.le_refl 256)
    have hppu : t.ppu = p := hout.1.trans (congrArg State.ppu hfold)
    rw [hppu]
    exact hread i hi

/-- Settles O39: the strobe is a map over each port, a serial session the shifts of the register it latched. -/
theorem controllerPorts : Obligations.ControllerPorts := by
  refine ⟨fun s v => ?_, fun s => ⟨fun h => ?_, fun h => ?_⟩, fun s p hstrobe => ⟨fun h => ?_, fun h => ?_⟩,
    fun s p1 p2 on off k h1 h2 hon hoff => ?_⟩
  · rw [busWrite_pads, padStrobe_eq_map, padStrobe_eq_map]
  · rw [busPeek_pad1, busTouch_pad1, h]
    exact ⟨rfl, congrArg s.setPad1 h.symm⟩
  · rw [busPeek_pad2, busTouch_pad2, h]
    exact ⟨rfl, congrArg s.setPad2 h.symm⟩
  · rw [busPeek_pad1, busTouch_pad1, h]
    exact ⟨padPeek_strobed hstrobe, by rw [padTouch_strobed hstrobe]⟩
  · rw [busPeek_pad2, busTouch_pad2, h]
    exact ⟨padPeek_strobed hstrobe, by rw [padTouch_strobed hstrobe]⟩
  · intro u bit
    rw [repeat_busTouch_pad1, repeat_busTouch_pad2, busPeek_pad1, busPeek_pad2]
    have hpad1 : u.pad1 = padStrobe off (padStrobe on (some p1)) := h1 ▸ rfl
    have hpad2 : u.pad2 = padStrobe off (padStrobe on (some p2)) := h2 ▸ rfl
    rw [State.setPad1_pad1, State.setPad2_pad2, hpad1, hpad2]
    exact ⟨padPeek_serial hon hoff p1 _ k, padPeek_serial hon hoff p2 _ k⟩

end Sys2Proof.Machine
end

section
/-! Interrupt entry (60_exceptions.md R445, R449): the status an entry pushes, the charge as a change of `cyc` alone, and
the entry at any vector behind the mapper. -/

namespace Sys2Proof.Machine

/-- An interrupt entry pushes the status with `B` clear and `U` set. -/
theorem pushedByEntry_false (p : Byte) : pushedByEntry false p = (p &&& 0xCF#8) ||| 0x20#8 := BitVec.or_zero

/-- In either mode the charge writes `cyc` and nothing else. -/
theorem charge7_eq_setCyc (s : State) : charge7 s = s.setCyc (charge7 s).cpu.cyc := by
  unfold charge7
  split <;> rfl

theorem charge7_cyc_of_assign {s : State} (h : s.params.intCharge = .assign) : (charge7 s).cpu.cyc = 7 := by
  rw [charge7, h]
  rfl

theorem charge7_cyc_of_add {s : State} (h : s.params.intCharge = .add) : (charge7 s).cpu.cyc = s.cpu.cyc + 7 := by
  rw [charge7, h]
  rfl

/-- The taking of an interrupt, before the charge: three pushes below `S`, then `I` and the vector. -/
theorem takeException_false_eq {vector : Addr} (h : 0xFFFA ≤ vector.toNat) (h' : vector.toNat < 0xFFFF) (s : State) :
    takeException vector false s =
      (ramWrite (ramWrite (ramWrite s (256 + s.cpu.s.toNat) (hiByte s.cpu.pc))
        (256 + (s.cpu.s - 1#8).toNat) (loByte s.cpu.pc))
        (256 + (s.cpu.s - 2#8).toNat) ((s.cpu.p &&& 0xCF#8) ||| 0x20#8)).withCpu
          { s.cpu with
            s := s.cpu.s - 3#8, p := putI true s.cpu.p
            pc := word16 (busPeek s (vector + 1#16)) (busPeek s vector) } := by
  obtain ⟨hcpu, hout⟩ := takeException_spec vector false s h h'
  rw [State.eq_withCpu hout, hcpu, pushedByEntry_false]

theorem enterInterrupt_outcome {vector : Addr} (h : 0xFFFA ≤ vector.toNat) (h' : vector.toNat < 0xFFFF) (s : State) :
    EntryOutcome vector s (enterInterrupt vector s) := by
  rw [enterInterrupt, charge7_eq_setCyc, takeException_false_eq h h' s]
  exact ⟨rfl, rfl, flagI_putI true s.cpu.p,
    onlyChanges_stackPointer rfl rfl rfl (writesFlags_putI true s.cpu.p), rfl,
    fun hmode => charge7_cyc_of_assign hmode, fun hmode => charge7_cyc_of_add hmode,
    OutsideIs.refl (ramWrite (ramWrite (ramWrite s _ _) _ _) _ _)⟩

theorem irq_of_clear {s : State} (h : flagI s.cpu.p = false) : irq s = enterInterrupt Config.irqVector s :=
  if_neg (ne_true_of_eq_false h)

theorem irq_of_masked {s : State} (h : flagI s.cpu.p = true) : irq s = s := if_pos h

end Sys2Proof.Machine
end

section
/-! The statement of 60_exceptions.md on interrupt entry. -/

namespace Sys2Proof.Machine

/-- Settles O53: both interrupts are one entry, `irq()` behind the mask. -/
theorem interruptEntry : Obligations.InterruptEntry := by
  intro s
  refine ⟨enterInterrupt_outcome (by decide) (by decide) s, fun hclear => ?_, irq_of_masked⟩
  rw [irq_of_clear hclear]
  exact enterInterrupt_outcome (by decide) (by decide) s

end Sys2Proof.Machine
end

section
/-! The opcode table (30_encoding.md R140 to R150): every instruction's bytes are those of one row, and every row's
instructions have its bytes. -/

namespace Sys2Proof

/-- The bytes of instruction `i` are `bs`: an opcode byte and the operand bytes of its row (R141, R143). -/
inductive RowBytes : Instr → List Byte → Prop
  | imp {opcode : Byte} {i : Instr} (h : formOf opcode = some (.imp i)) : RowBytes i [opcode]
  | byte {opcode : Byte} {f : Byte → Instr} (h : formOf opcode = some (.byte f)) (b : Byte) : RowBytes (f b) [opcode, b]
  | word {opcode : Byte} {f : Addr → Instr} (h : formOf opcode = some (.word f)) (a : Addr) :
      RowBytes (f a) (opcode :: leBytes a)

/-- The encoder writes each instruction by a row of the opcode map: 29 rows of one byte, 74 of two, 48 of three. -/
theorem rowBytes_encode (i : Instr) : RowBytes i (encode i) := by
  cases i with
  | tax | tay | txa | tya | tsx | txs | inx | iny | dex | dey | aslAcc | lsrAcc | rolAcc | rorAcc | rts | rti | brk
  | pha | pla | php | plp | clc | sec | cli | sei | clv | cld | sed | nop => exact .imp rfl
  | ldaIzx _ | ldaZp0 _ | ldaImm _ | ldaIzy _ | ldaZpx _ | ldxImm _ | ldxZp0 _ | ldxZpy _ | ldyImm _ | ldyZp0 _
  | ldyZpx _ | staIzx _ | staZp0 _ | staIzy _ | staZpx _ | stxZp0 _ | stxZpy _ | styZp0 _ | styZpx _ | adcIzx _
  | adcZp0 _ | adcImm _ | adcIzy _ | adcZpx _ | sbcIzx _ | sbcZp0 _ | sbcImm _ | sbcIzy _ | sbcZpx _ | andIzx _
  | andZp0 _ | andImm _ | andIzy _ | andZpx _ | oraIzx _ | oraZp0 _ | oraImm _ | oraIzy _ | oraZpx _ | eorIzx _
  | eorZp0 _ | eorImm _ | eorIzy _ | eorZpx _ | cmpIzx _ | cmpZp0 _ | cmpImm _ | cmpIzy _ | cmpZpx _ | cpxImm _
  | cpxZp0 _ | cpyImm _ | cpyZp0 _ | bitZp0 _ | incZp0 _ | incZpx _ | decZp0 _ | decZpx _ | aslZp0 _ | aslZpx _
  | lsrZp0 _ | lsrZpx _ | rolZp0 _ | rolZpx _ | rorZp0 _ | rorZpx _ | bcc _ | bcs _ | beq _ | bne _ | bmi _ | bpl _
  | bvc _ | bvs _ => exact .byte rfl _
  | ldaAbs _ | ldaAby _ | ldaAbx _ | ldxAbs _ | ldxAby _ | ldyAbs _ | ldyAbx _ | staAbs _ | staAby _ | staAbx _
  | stxAbs _ | styAbs _ | adcAbs _ | adcAby _ | adcAbx _ | sbcAbs _ | sbcAby _ | sbcAbx _ | andAbs _ | andAby _
  | andAbx _ | oraAbs _ | oraAby _ | oraAbx _ | eorAbs _ | eorAby _ | eorAbx _ | cmpAbs _ | cmpAby _ | cmpAbx _
  | cpxAbs _ | cpyAbs _ | bitAbs _ | incAbs _ | incAbx _ | decAbs _ | decAbx _ | aslAbs _ | aslAbx _ | lsrAbs _
  | lsrAbx _ | rolAbs _ | rolAbx _ | rorAbs _ | rorAbx _ | jmpAbs _ | jmpInd _ | jsr _ => exact .word rfl _

theorem decode_of_formOf {opcode : Byte} {f : Form} (h : formOf opcode = some f) (bs : List Byte) :
    decode (opcode :: bs) = f.complete opcode bs := by
  rw [decode, h]

theorem RowBytes.decode_append {i : Instr} {bs : List Byte} (h : RowBytes i bs) (rest : List Byte) :
    decode (bs ++ rest) = .ok (i, rest) := by
  cases h with
  | imp h => exact decode_of_formOf h rest
  | byte h b => exact decode_of_formOf h (b :: rest)
  | word h a =>
    refine (decode_of_formOf h (leBytes a ++ rest)).trans ?_
    rw [leBytes, List.cons_append, List.cons_append, List.nil_append, Form.complete, word16_bytes]

/-- The first byte of an instruction selects a row and the row tells how many operand bytes follow (R140). -/
theorem RowBytes.exists_opcode {i : Instr} {bs : List Byte} (h : RowBytes i bs) :
    ∃ opcode operand f, bs = opcode :: operand ∧ formOf opcode = some f ∧ operand.length = f.operandBytes := by
  cases h with
  | imp h | byte h _ | word h _ => exact ⟨_, _, _, rfl, h, rfl⟩

/-- Every instruction of the row with this opcode byte is encoded with that byte first. -/
def Form.EncodedAt (opcode : Byte) : Form → Prop
  | .imp i => encode i = [opcode]
  | .byte f => encode ∘ f = fun b => [opcode, b]
  | .word f => encode ∘ f = fun a => opcode :: leBytes a

theorem findRow_mem {rows : List (Nat × Form)} {n : Nat} {f : Form} (h : findRow rows n = some f) : (n, f) ∈ rows := by
  induction rows with
  | nil => cases h
  | cons row rows ih =>
    obtain ⟨k, g⟩ := row
    rw [findRow] at h
    split at h
    · next hk =>
      obtain rfl := Option.some.inj h
      exact hk ▸ List.mem_cons_self
    · exact List.mem_cons_of_mem _ (ih h)

/-- The rows of the opcode map hold the instructions whose encodings begin with their byte. -/
theorem encodedAt_opcodeRow (high : Nat) :
    (opcodeRow high).Forall fun row => row.2.EncodedAt (BitVec.ofNat 8 row.1) := by
  unfold opcodeRow
  split
  case h_17 => trivial
  all_goals
    repeat' apply And.intro
    all_goals rfl

theorem encodedAt_of_formOf {opcode : Byte} {f : Form} (h : formOf opcode = some f) : f.EncodedAt opcode := by
  have hrow := List.forall_iff_forall_mem.1 (encodedAt_opcodeRow (opcode.toNat / 16)) _ (findRow_mem h)
  rwa [BitVec.ofNat_toNat, BitVec.setWidth_eq] at hrow

/-- What completes a row with operand bytes is encoded as the opcode byte and the bytes it used (R141, R143). -/
theorem Form.EncodedAt.complete {opcode : Byte} {f : Form} (h : f.EncodedAt opcode) {bs rest : List Byte} {i : Instr}
    (hc : f.complete opcode bs = .ok (i, rest)) : opcode :: bs = encode i ++ rest := by
  unfold Form.complete at hc
  split at hc
  · cases hc
    rw [show encode i = [opcode] from h]
    rfl
  · cases hc
    exact congrArg (· ++ rest) (congrFun h _).symm
  · next f lo hi rest =>
    cases hc
    have hencode : encode (f (word16 hi lo)) = opcode :: leBytes (word16 hi lo) := congrFun h _
    rw [hencode, leBytes_word16]
    rfl
  · cases hc

theorem encode_of_decode {bs rest : List Byte} {i : Instr} (h : decode bs = .ok (i, rest)) : bs = encode i ++ rest := by
  unfold decode at h
  split at h
  · cases h
  · split at h
    · cases h
    · next hform => exact (encodedAt_of_formOf hform).complete h

/-- Two operand bytes complete every row. -/
theorem Form.complete_ok (opcode : Byte) (f : Form) (x y : Byte) (rest : List Byte) :
    ∃ i r, f.complete opcode (x :: y :: rest) = .ok (i, r) := by
  cases f <;> exact ⟨_, _, rfl⟩

/-- The bytes of the list have no row and every other byte has one (R150). -/
theorem formOf_isNone (b : Byte) : (formOf b).isNone = illegalOpcodes.contains b.toNat := by
  revert b
  decide

theorem formOf_eq_none_iff (b : Byte) : formOf b = none ↔ b.toNat ∈ illegalOpcodes := by
  rw [← Option.isNone_iff_eq_none, formOf_isNone, List.contains_iff_mem]

theorem decode_of_illegal {b : Byte} (h : b.toNat ∈ illegalOpcodes) (rest : List Byte) :
    decode (b :: rest) = .error (.illegalOpcode b) := by
  rw [decode, (formOf_eq_none_iff b).2 h]

end Sys2Proof
end

section
/-! The statements of 30_encoding.md. -/

namespace Sys2Proof

/-- Settles O1: each instruction's bytes are those of its row. -/
theorem decodeInvertsEncode : Obligations.DecodeInvertsEncode :=
  fun i => (rowBytes_encode i).decode_append

/-- Settles O2: each row's instructions have its bytes. -/
theorem encodeInvertsDecode : Obligations.EncodeInvertsDecode :=
  fun _ _ _ => encode_of_decode

/-- Settles O3: a byte has no row exactly when it is in the list, and two operand bytes complete every row. -/
theorem illegalOpcodesAreTheList : Obligations.IllegalOpcodesAreTheList := by
  refine ⟨rfl, fun b => ⟨decode_of_illegal, fun hlegal x y rest => ?_⟩⟩
  obtain ⟨f, hf⟩ := Option.ne_none_iff_exists'.1 (mt (formOf_eq_none_iff b).1 hlegal)
  obtain ⟨i, r, hc⟩ := f.complete_ok b x y rest
  have hdecode : decode (b :: x :: y :: rest) = .ok (i, r) := (decode_of_formOf hf _).trans hc
  refine ⟨i, r, hdecode, ?_⟩
  obtain ⟨opcode, operand, -, hencode, -⟩ := (rowBytes_encode i).exists_opcode
  have hbytes := encode_of_decode hdecode
  rw [hencode, List.cons_append, List.cons_eq_cons] at hbytes
  rw [hencode, hbytes.1, List.head?_cons]

/-- Settles O4: the decoder run on the nine words. -/
theorem sampleEncodings : Obligations.SampleEncodings :=
  ⟨rfl, rfl, rfl, rfl, rfl, rfl, rfl, rfl, rfl⟩

end Sys2Proof
end

section
/-! What every instruction does, said once: its CPU writes only what its mnemonic is listed for (10_state.md R20 to
R27), and outside the CPU it makes bus reads and bus writes, the writes at the places of `storedPlaces`. -/

namespace Sys2Proof.Machine

/-! ### Bus accesses -/

/-- From `s`, bus reads and bus writes lead to the last state, and the writes store to `places` alone. -/
inductive BusRun (places : List Place) (s : State) : State → Prop
  | refl : BusRun places s s
  | read {u : State} (h : BusRun places s u) (a : Addr) : BusRun places s (busTouch u a)
  | write {u : State} (h : BusRun places s u) (a : Addr) (v : Byte) (hp : storePlaces u a ⊆ places) :
      BusRun places s (busWrite u a v)

theorem BusRun.write_stored {s : State} (a : Addr) (v : Byte) : BusRun (storePlaces s a) s (busWrite s a v) :=
  .write .refl a v (List.Subset.refl _)

theorem busWrite_stack (u : State) (b v : Byte) : busWrite u (stackAddr b) v = ramWrite u (256 + b.toNat) v := by
  rw [busWrite, busRegion_stack, ramIndex_stack]

theorem storePlaces_stack (u : State) (b : Byte) : storePlaces u (stackAddr b) = [.ram (256 + b.toNat)] := by
  rw [storePlaces, busRegion_stack, ramIndex_stack]

/-- The `k`-th push of `n` is a bus write at one of their places. -/
theorem BusRun.push {s u : State} {n : Nat} (h : BusRun (pushPlaces s n) s u) (k : Nat) (hk : k < n) (v : Byte) :
    BusRun (pushPlaces s n) s (ramWrite u (256 + (s.cpu.s - BitVec.ofNat 8 k).toNat) v) := by
  rw [← busWrite_stack]
  refine h.write _ _ ?_
  rw [storePlaces_stack]
  exact List.cons_subset.2 ⟨List.mem_map_of_mem (List.mem_range.2 hk), List.nil_subset _⟩

theorem BusRun.push_first {s : State} {n : Nat} (hn : 0 < n) (v : Byte) :
    BusRun (pushPlaces s n) s (ramWrite s (256 + s.cpu.s.toNat) v) := by
  have h := (BusRun.refl (places := pushPlaces s n)).push 0 hn v
  rwa [BitVec.sub_zero] at h

/-! ### The outcome of an instruction -/

/-- What instruction `i` leaves of state `s`. -/
structure InstrOutcome (i : Instr) (s t : State) : Prop where
  flags : ∀ f, s.cpu.inv = true → mnemonicOf i ∉ flagWriters f → f.value t.cpu.p = f.value s.cpu.p
  regs : ∀ r, mnemonicOf i ∉ regWriters r → r.value t.cpu = r.value s.cpu
  pc : mnemonicOf i ∉ pcWriters → t.cpu.pc = s.cpu.pc
  pulses : ∃ n, 2 ≤ n ∧ Pulses n s t
  outside : ∃ u, BusRun (storedPlaces i s) s u ∧ OutsideIs u t

/-- Instruction `i` completes on `s`, with that outcome. -/
def HasOutcome (i : Instr) (s : State) : Prop := ∃ t, exec i s = .next t ∧ InstrOutcome i s t

/-- Mnemonic `m` is a listed writer of all of `regs` and `flags`. -/
def listedWriter (m : Mnemonic) (regs : List Reg) (flags : List Flag) : Bool :=
  regs.all (fun r => (regWriters r).contains m) && flags.all fun f => (flagWriters f).contains m

theorem listedWriter_iff (m : Mnemonic) (regs : List Reg) (flags : List Flag) :
    listedWriter m regs flags = true ↔ (∀ r ∈ regs, m ∈ regWriters r) ∧ ∀ f ∈ flags, m ∈ flagWriters f := by
  simp [listedWriter]

variable {i : Instr} {s t u : State} {regs : List Reg} {flags : List Flag} {n : Nat} {op : State → State}

theorem InstrOutcome.of_onlyChanges (h : OnlyChanges regs flags s t)
    (hw : listedWriter (mnemonicOf i) regs flags = true) (hpc : mnemonicOf i ∉ pcWriters → t.cpu.pc = s.cpu.pc)
    (hn : 2 ≤ n) (hpulses : Pulses n s t) (hrun : BusRun (storedPlaces i s) s u) (hout : OutsideIs u t) :
    InstrOutcome i s t := by
  obtain ⟨hregs, hflags⟩ := (listedWriter_iff ..).1 hw
  exact ⟨fun f _ hf => h.2 f (mt (hflags f) hf), fun r hr => h.1 r (mt (hregs r) hr), hpc, ⟨n, hn, hpulses⟩,
    u, hrun, hout⟩

/-- An operation that changes the CPU alone, run on `v`, which differs from `s` by what its addressing mode did. -/
theorem InstrOutcome.of_cpuOnly {v : State} (hv : OnlyChanges [] [] s v) (hvpc : v.cpu.pc = s.cpu.pc)
    (hvtotal : v.cpu.total = s.cpu.total) (hcyc : 2 ≤ v.cpu.cyc) (h : CpuOnly regs flags v (op v)) (k : Nat)
    (hw : listedWriter (mnemonicOf i) regs flags = true) (hrun : BusRun (storedPlaces i s) s u) (hout : OutsideIs u v) :
    InstrOutcome i s ((op v).addCyc k) := by
  obtain ⟨honly, hpc, ⟨hcyc', htotal⟩, hout'⟩ := h
  have hframe := (hv.weaken.trans honly).trans (onlyChanges_addCyc k _).weaken
  exact .of_onlyChanges hframe hw (fun _ => hpc.trans hvpc) (Nat.le_add_right_of_le hcyc)
    ⟨congrArg (· + k) hcyc', htotal.trans hvtotal⟩ hrun (hout.trans hout')

theorem hasOutcome_implied (hexec : exec i s = runImplied n op s) (h : ∀ v, CpuOnly regs flags v (op v))
    (hw : listedWriter (mnemonicOf i) regs flags = true) (hn : 2 ≤ n) : HasOutcome i s :=
  ⟨_, hexec, .of_cpuOnly (onlyChanges_setCyc n s) rfl rfl hn (h _) 0 hw .refl (OutsideIs.refl s)⟩

theorem hasOutcome_immediate {d : Byte} (hexec : exec i s = runImmediate 2 d op s)
    (h : ∀ v, CpuOnly regs flags v (op v)) (hw : listedWriter (mnemonicOf i) regs flags = true) : HasOutcome i s :=
  have hstart : OnlyChanges [] [] s (((s.setCyc 2).setAddr (s.cpu.pc - 1#16)).setFetched d) :=
    onlyChanges_nothing rfl rfl rfl rfl rfl
  ⟨_, hexec, .of_cpuOnly hstart rfl rfl (Nat.le_refl 2) (h _) 0 hw .refl (OutsideIs.refl s)⟩

/-- A read instruction: one bus read and an operation that changes the CPU alone. -/
theorem hasOutcome_read {ea : Addr} {crossed : Bool} (hexec : exec i s = runRead n ea crossed op s)
    (h : ∀ v, CpuOnly regs flags v (op v)) (hw : listedWriter (mnemonicOf i) regs flags = true) (hn : 2 ≤ n) :
    HasOutcome i s := by
  rw [runRead, runOperand, fetchOperand_setAddr] at hexec
  have hstart := onlyChanges_atOperand s ea (busPeek s ea) (busTouch s ea) n
  exact ⟨_, hexec, .of_cpuOnly hstart rfl rfl hn (h _) _ hw (.read .refl ea) (OutsideIs.refl (busTouch s ea))⟩

/-- A read-modify-write instruction: one bus read and one bus write at the same address. -/
theorem hasOutcome_modify {ea : Addr} (hexec : exec i s = runModify n ea op s)
    (h : ∀ v, ∃ b g, op v = (busWrite v v.cpu.addr b).mapP g ∧ WritesFlags flags g)
    (hw : listedWriter (mnemonicOf i) [] flags = true)
    (hplaces : storedPlaces i s = storePlaces (busTouch s ea) ea) (hn : 2 ≤ n) : HasOutcome i s := by
  obtain ⟨b, g, hop, hg⟩ := h (atOperand s ea (busPeek s ea) (busTouch s ea) n)
  rw [runModify_eq, hop] at hexec
  have hframe := ((onlyChanges_atOperand s ea (busPeek s ea) (busTouch s ea) n).trans
    (onlyChanges_busWrite _ ea b)).weaken.trans (hg.onlyChanges_mapP _)
  have hrun : BusRun (storedPlaces i s) s (busWrite (busTouch s ea) ea b) :=
    .write (.read .refl ea) ea b (by rw [hplaces]; exact List.Subset.refl _)
  exact ⟨_, hexec, .of_onlyChanges hframe hw (fun _ => busWrite_cpu_pc ..) (Nat.le_add_right_of_le hn)
    ⟨busWrite_cpu_cyc .., busWrite_cpu_total ..⟩ hrun
    (busWrite_withCpu_out _ _ ea b (by rw [busTouch_cpu]))⟩

/-- A store: one bus write. -/
theorem hasOutcome_store {ea : Addr} {b : Byte}
    (hexec : exec i s = .next (busWrite ((s.setCyc n).setAddr ea) ea b))
    (hplaces : storedPlaces i s = storePlaces s ea) (hn : 2 ≤ n) : HasOutcome i s := by
  have hframe : OnlyChanges [] [] s (busWrite ((s.setCyc n).setAddr ea) ea b) := by
    apply onlyChanges_nothing <;> simp
  exact ⟨_, hexec, .of_onlyChanges hframe rfl (fun _ => busWrite_cpu_pc ..) (Nat.le_add_right_of_le hn)
    ⟨busWrite_cpu_cyc .., busWrite_cpu_total ..⟩ (hplaces ▸ .write_stored ea b)
    (busWrite_withCpu_out ((s.setCyc n).setAddr ea).cpu s ea b rfl)⟩

theorem hasOutcome_branch {ea : Addr} {cond : Bool} (hexec : exec i s = runAddress 2 ea (opBranch cond) s)
    (hpc : pcWriters.contains (mnemonicOf i) = true) : HasOutcome i s := by
  obtain ⟨honly, hout, htotal⟩ := opBranch_keeps cond ((s.setCyc 2).setAddr ea)
  have hframe := (onlyChanges_nothing (t := (s.setCyc 2).setAddr ea) rfl rfl rfl rfl rfl).trans honly
  have hcyc : 2 ≤ (opBranch cond ((s.setCyc 2).setAddr ea)).cpu.cyc := by
    cases cond with
    | false => exact Nat.le_refl 2
    | true => exact Nat.le_add_right 2 _
  exact ⟨_, hexec, .of_onlyChanges hframe rfl (fun h => absurd (List.contains_iff_mem.1 hpc) h) hcyc ⟨rfl, htotal⟩ .refl
    hout⟩

/-- A jump, after the bus reads of its mode. -/
theorem hasOutcome_jump {a : Addr} (hexec : exec i s = runAddress n a opJmp u)
    (hpc : pcWriters.contains (mnemonicOf i) = true) (hn : 2 ≤ n) (hcpu : u.cpu = s.cpu)
    (hrun : BusRun (storedPlaces i s) s u) : HasOutcome i s := by
  obtain ⟨-, hframe, hout, hpulses⟩ := opJmp_outcome n a hcpu
  exact ⟨_, hexec, .of_onlyChanges hframe rfl (fun h => absurd (List.contains_iff_mem.1 hpc) h) hn hpulses hrun hout⟩

/-- An instruction that moves `S`, given what it leaves of the CPU and the state `u` its pushes leave. -/
theorem hasOutcome_stack (hexec : exec i s = .next t) (ha : t.cpu.a = s.cpu.a) (hx : t.cpu.x = s.cpu.x)
    (hy : t.cpu.y = s.cpu.y)
    (hflags : ∀ f, s.cpu.inv = true → mnemonicOf i ∉ flagWriters f → f.value t.cpu.p = f.value s.cpu.p)
    (hs : mnemonicOf i ∈ regWriters .s) (hpc : mnemonicOf i ∉ pcWriters → t.cpu.pc = s.cpu.pc) (hn : 2 ≤ t.cpu.cyc)
    (htotal : t.cpu.total = s.cpu.total) (hrun : BusRun (storedPlaces i s) s u) (hout : OutsideIs u t) :
    HasOutcome i s := by
  refine ⟨t, hexec, hflags, fun r hr => ?_, hpc, ⟨_, hn, rfl, htotal⟩, u, hrun, hout⟩
  cases r with
  | a => exact ha
  | x => exact hx
  | y => exact hy
  | s => exact absurd hs hr

/-- A pull of the status writes every flag but `B` and `U`, which the invariant holds at the values it gives them. -/
theorem flagValue_pulledStatus {c : Cpu} {b : Byte} {m : Mnemonic}
    (hm : listedWriter m [] [.n, .v, .d, .i, .z, .c] = true) (hinv : c.inv = true) (f : Flag) (hf : m ∉ flagWriters f) :
    f.value (pulledStatus b) = f.value c.p := by
  obtain ⟨hu, hb⟩ := (Cpu.inv_iff c).1 hinv
  obtain ⟨-, hw⟩ := (listedWriter_iff ..).1 hm
  cases f with
  | b => exact (flagB_pulledStatus b).trans hb.symm
  | u => exact (flagU_pulledStatus b).trans hu.symm
  | n | v | d | i | z | c => exact absurd (hw _ (by decide)) hf

theorem Loads.cpuOnly {r : Reg} {v : Byte} (h : Loads r v s t) : CpuOnly [r] [.z, .n] s t :=
  ⟨h.onlyChanges, h.pc, h.pulses, h.outside⟩

theorem cpuOnly_id (s : State) : CpuOnly [] [] s (id s) :=
  ⟨onlyChanges_nothing rfl rfl rfl rfl rfl, rfl, ⟨rfl, rfl⟩, OutsideIs.refl s⟩

theorem cpuOnly_opTxs (s : State) : CpuOnly [.s] [] s (opTxs s) where
  onlyChanges :=
    ⟨fun | .s, hs => absurd (List.mem_singleton_self _) hs
         | .a, _ | .x, _ | .y, _ => rfl, fun _ _ => rfl⟩
  pc := rfl
  pulses := ⟨rfl, rfl⟩
  outside := OutsideIs.refl s

/-- A push of one byte. -/
theorem hasOutcome_push {v : Byte} (hexec : exec i s = runImplied n (push v) s)
    (hs : mnemonicOf i ∈ regWriters .s) (hn : 2 ≤ n) (hplaces : storedPlaces i s = pushPlaces s 1) :
    HasOutcome i s := by
  rw [runImplied, push_eq] at hexec
  have hrun : BusRun (storedPlaces i s) s (ramWrite s (256 + s.cpu.s.toNat) v) :=
    hplaces ▸ BusRun.push_first Nat.one_pos v
  exact hasOutcome_stack hexec rfl rfl rfl (fun _ _ _ => rfl) hs (fun _ => rfl) hn rfl hrun (OutsideIs.refl _)

theorem hasOutcome_jsr (a : Addr) (s : State) : HasOutcome (.jsr a) s := by
  have hexec : exec (.jsr a) s = .next (opJsr ((s.setCyc 6).setAddr a)) := rfl
  rw [opJsr_eq] at hexec
  have hrun := (BusRun.push_first (s := s) (n := 2) (by decide) (hiByte (s.cpu.pc - 1#16))).push 1 (by decide)
    (loByte (s.cpu.pc - 1#16))
  exact hasOutcome_stack hexec rfl rfl rfl (fun _ _ _ => rfl) (by decide : Mnemonic.jsr ∈ regWriters .s)
    (fun h => absurd (by decide : Mnemonic.jsr ∈ pcWriters) h) (by decide : 2 ≤ 6) rfl hrun (OutsideIs.refl _)

theorem hasOutcome_brk (s : State) : HasOutcome .brk s := by
  have hexec : exec .brk s = .next (opBrk (s.setCyc 7)) := rfl
  rw [opBrk_eq] at hexec
  have hrun := ((BusRun.push_first (s := s) (n := 3) (by decide) (hiByte (s.cpu.pc + 1#16))).push 1 (by decide)
    (loByte (s.cpu.pc + 1#16))).push 2 (by decide) (s.cpu.p ||| 0x30#8)
  have hflags : ∀ f, mnemonicOf .brk ∉ flagWriters f → f.value (putI true s.cpu.p) = f.value s.cpu.p :=
    fun f hf => writesFlags_putI true s.cpu.p f fun hmem => hf (List.mem_singleton.1 hmem ▸ by decide)
  exact hasOutcome_stack hexec rfl rfl rfl (fun f _ => hflags f) (by decide) (fun h => absurd (by decide) h)
    (by decide : 2 ≤ 7) rfl hrun (OutsideIs.refl _)

theorem hasOutcome_rts (s : State) : HasOutcome .rts s := by
  have hexec : exec .rts s = .next (opRts (s.setCyc 6)) := rfl
  rw [opRts_eq] at hexec
  exact hasOutcome_stack hexec rfl rfl rfl (fun _ _ _ => rfl) (by decide) (fun h => absurd (by decide) h)
    (by decide : 2 ≤ 6) rfl .refl (OutsideIs.refl s)

theorem hasOutcome_rti (s : State) : HasOutcome .rti s := by
  have hexec : exec .rti s = .next (returnFromException (s.setCyc 6)) := rfl
  rw [returnFromException_eq] at hexec
  exact hasOutcome_stack hexec rfl rfl rfl (fun f hinv => flagValue_pulledStatus rfl hinv f) (by decide)
    (fun h => absurd (by decide) h) (by decide : 2 ≤ 6) rfl .refl (OutsideIs.refl s)

theorem hasOutcome_plp (s : State) : HasOutcome .plp s := by
  have hexec : exec .plp s = .next (opPlp (s.setCyc 4)) := rfl
  rw [opPlp_eq] at hexec
  exact hasOutcome_stack hexec rfl rfl rfl (fun f hinv => flagValue_pulledStatus rfl hinv f) (by decide)
    (fun _ => rfl) (by decide : 2 ≤ 4) rfl .refl (OutsideIs.refl s)

/-- Every instruction completes on every state, with the outcome of its shape: an implied or immediate operation on the
CPU, a read, a read-modify-write, a store, a jump or branch, or a move of the stack pointer. -/
theorem hasOutcome (i : Instr) (s : State) : HasOutcome i s := by
  cases i with
  | ldaImm _ | andImm _ | oraImm _ | eorImm _ =>
    exact hasOutcome_immediate rfl (fun v => (loads_loadA _ v).cpuOnly) rfl
  | ldxImm _ => exact hasOutcome_immediate rfl (fun v => (loads_loadX _ v).cpuOnly) rfl
  | ldyImm _ => exact hasOutcome_immediate rfl (fun v => (loads_loadY _ v).cpuOnly) rfl
  | adcImm _ | sbcImm _ => exact hasOutcome_immediate rfl (fun v => cpuOnly_addWithCarry _ v) rfl
  | cmpImm _ | cpxImm _ | cpyImm _ =>
    exact hasOutcome_immediate rfl (fun v => (writesFlags_compareStatus _ _).cpuOnly_mapP v) rfl
  | ldaIzx _ | ldaZp0 _ | ldaAbs _ | ldaIzy _ | ldaZpx _ | ldaAby _ | ldaAbx _
  | andIzx _ | andZp0 _ | andAbs _ | andIzy _ | andZpx _ | andAby _ | andAbx _
  | oraIzx _ | oraZp0 _ | oraAbs _ | oraIzy _ | oraZpx _ | oraAby _ | oraAbx _
  | eorIzx _ | eorZp0 _ | eorAbs _ | eorIzy _ | eorZpx _ | eorAby _ | eorAbx _ =>
    exact hasOutcome_read rfl (fun v => (loads_loadA _ v).cpuOnly) rfl (by decide)
  | ldxZp0 _ | ldxAbs _ | ldxZpy _ | ldxAby _ =>
    exact hasOutcome_read rfl (fun v => (loads_loadX _ v).cpuOnly) rfl (by decide)
  | ldyZp0 _ | ldyAbs _ | ldyZpx _ | ldyAbx _ =>
    exact hasOutcome_read rfl (fun v => (loads_loadY _ v).cpuOnly) rfl (by decide)
  | adcIzx _ | adcZp0 _ | adcAbs _ | adcIzy _ | adcZpx _ | adcAby _ | adcAbx _
  | sbcIzx _ | sbcZp0 _ | sbcAbs _ | sbcIzy _ | sbcZpx _ | sbcAby _ | sbcAbx _ =>
    exact hasOutcome_read rfl (fun v => cpuOnly_addWithCarry _ v) rfl (by decide)
  | cmpIzx _ | cmpZp0 _ | cmpAbs _ | cmpIzy _ | cmpZpx _ | cmpAby _ | cmpAbx _ | cpxZp0 _ | cpxAbs _ | cpyZp0 _
  | cpyAbs _ =>
    exact hasOutcome_read rfl (fun v => (writesFlags_compareStatus _ _).cpuOnly_mapP v) rfl (by decide)
  | bitZp0 _ | bitAbs _ =>
    exact hasOutcome_read rfl (fun v => (writesFlags_bitStatus _ _).cpuOnly_mapP v) rfl (by decide)
  | incZp0 _ | incAbs _ | incZpx _ | incAbx _ | decZp0 _ | decAbs _ | decZpx _ | decAbx _ =>
    exact hasOutcome_modify rfl (fun _ => ⟨_, _, rfl, writesFlags_putZN _⟩) rfl rfl (by decide)
  | aslZp0 _ | aslAbs _ | aslZpx _ | aslAbx _ | lsrZp0 _ | lsrAbs _ | lsrZpx _ | lsrAbx _
  | rolZp0 _ | rolAbs _ | rolZpx _ | rolAbx _ | rorZp0 _ | rorAbs _ | rorZpx _ | rorAbx _ =>
    exact hasOutcome_modify rfl (fun _ => ⟨_, _, rfl, writesFlags_shiftStatus _⟩) rfl rfl (by decide)
  | staIzx _ | staZp0 _ | staAbs _ | staIzy _ | staZpx _ | staAby _ | staAbx _ | stxZp0 _ | stxAbs _ | stxZpy _
  | styZp0 _ | styAbs _ | styZpx _ => exact hasOutcome_store rfl rfl (by decide)
  | txa | tya => exact hasOutcome_implied rfl (fun v => (loads_loadA _ v).cpuOnly) rfl (by decide)
  | tax | tsx | inx | dex => exact hasOutcome_implied rfl (fun v => (loads_loadX _ v).cpuOnly) rfl (by decide)
  | tay | iny | dey => exact hasOutcome_implied rfl (fun v => (loads_loadY _ v).cpuOnly) rfl (by decide)
  | txs => exact hasOutcome_implied rfl cpuOnly_opTxs rfl (by decide)
  | aslAcc | lsrAcc | rolAcc | rorAcc => exact hasOutcome_implied rfl (cpuOnly_shiftAcc _) rfl (by decide)
  | pla => exact hasOutcome_implied rfl cpuOnly_opPla rfl (by decide)
  | clc => exact hasOutcome_implied rfl (writesFlags_putC false).cpuOnly_mapP rfl (by decide)
  | sec => exact hasOutcome_implied rfl (writesFlags_putC true).cpuOnly_mapP rfl (by decide)
  | cli => exact hasOutcome_implied rfl (writesFlags_putI false).cpuOnly_mapP rfl (by decide)
  | sei => exact hasOutcome_implied rfl (writesFlags_putI true).cpuOnly_mapP rfl (by decide)
  | clv => exact hasOutcome_implied rfl (writesFlags_putV false).cpuOnly_mapP rfl (by decide)
  | cld => exact hasOutcome_implied rfl (writesFlags_putD false).cpuOnly_mapP rfl (by decide)
  | sed => exact hasOutcome_implied rfl (writesFlags_putD true).cpuOnly_mapP rfl (by decide)
  | nop => exact hasOutcome_implied (op := id) rfl (fun v => (cpuOnly_id v)) rfl (by decide)
  | bcc r | bcs r | beq r | bne r | bmi r | bpl r | bvc r | bvs r => exact hasOutcome_branch rfl rfl
  | jmpAbs _ => exact hasOutcome_jump (u := s) rfl rfl (by decide) rfl .refl
  | jmpInd ptr =>
    exact hasOutcome_jump rfl rfl (by decide) (readIndirect_cpu s ptr) (.read (.read .refl _) _)
  | jsr a => exact hasOutcome_jsr a s
  | rts => exact hasOutcome_rts s
  | rti => exact hasOutcome_rti s
  | brk => exact hasOutcome_brk s
  | pha | php => exact hasOutcome_push rfl (by decide) (by decide) rfl
  | plp => exact hasOutcome_plp s

end Sys2Proof.Machine
end

section
/-! A property that bus accesses, CPU-only changes, host events and PPU pulses keep is kept by every step
(00_scope.md R12, 40_cpu_engine.md R170). -/

namespace Sys2Proof.Machine

/-- `I` survives everything a step is made of. -/
structure KeptByParts (I : State → Prop) : Prop where
  read : ∀ s a, I s → I (busTouch s a)
  write : ∀ s a v, I s → I (busWrite s a v)
  cpuOnly : ∀ s t, OutsideIs s t → (s.cpu.inv = true → t.cpu.inv = true) → I s → I t
  events : ∀ es s, I s → I (hostEvents es s)
  ppu : ∀ s, I s → I (ppuPulse s)
  inputs : ∀ l s, I s → I (s.setInputs l)

theorem BusRun.cpu_p {places : List Place} {s u : State} (h : BusRun places s u) : u.cpu.p = s.cpu.p := by
  induction h with
  | refl => rfl
  | read _ a ih => rw [busTouch_cpu, ih]
  | write _ a v _ ih => rw [busWrite_cpu_p, ih]

/-- `B` and `U` have no writer, so an instruction keeps the invariant of the CPU. -/
theorem InstrOutcome.cpu_inv {i : Instr} {s t : State} (h : InstrOutcome i s t) (hinv : s.cpu.inv = true) :
    t.cpu.inv = true := by
  obtain ⟨hu, hb⟩ := (Cpu.inv_iff _).1 hinv
  exact (Cpu.inv_iff _).2 ⟨(h.flags .u hinv List.not_mem_nil).trans hu, (h.flags .b hinv List.not_mem_nil).trans hb⟩

/-- What `exec` answers is the instruction's outcome. -/
theorem instrOutcome_of_exec {i : Instr} {s t : State} (h : exec i s = .next t) : InstrOutcome i s t := by
  obtain ⟨t', hexec, hout⟩ := hasOutcome i s
  rw [hexec] at h
  injection h with h
  exact h ▸ hout

/-! ### The fetch -/

theorem fetch_of_illegal {s : State} (hform : formOf (fetchByte s).1 = none) :
    fetch s = .error (.illegalOpcode (fetchByte s).1 s.cpu.pc) := by
  simp only [fetch, hform]

theorem fetch_of_decode {s : State} {f : Form} {i : Instr} {rest : List Byte} (hform : formOf (fetchByte s).1 = some f)
    (hdecode : decode ((fetchByte s).1 :: (fetchBytes f.operandBytes (fetchByte s).2).1) = .ok (i, rest)) :
    fetch s = .ok (i, (fetchBytes f.operandBytes (fetchByte s).2).2) := by
  simp only [fetch, hform, hdecode]

theorem fetch_of_decode_error {s : State} {f : Form} {e : DecodeError} (hform : formOf (fetchByte s).1 = some f)
    (hdecode : decode ((fetchByte s).1 :: (fetchBytes f.operandBytes (fetchByte s).2).1) = .error e) :
    fetch s = .error (.illegalOpcode (fetchByte s).1 s.cpu.pc) := by
  simp only [fetch, hform, hdecode]

/-- A fetch that answers has read some bytes after the opcode, and changed nothing else. -/
theorem state_of_fetch {s t : State} {i : Instr} (h : fetch s = .ok (i, t)) :
    ∃ n, (fetchBytes n (fetchByte s).2).2 = t := by
  cases hform : formOf (fetchByte s).1 with
  | none => exact absurd ((fetch_of_illegal hform).symm.trans h) nofun
  | some f =>
    cases hdecode : decode ((fetchByte s).1 :: (fetchBytes f.operandBytes (fetchByte s).2).1) with
    | error e => exact absurd ((fetch_of_decode_error hform hdecode).symm.trans h) nofun
    | ok r =>
      have hok := (fetch_of_decode (rest := r.2) hform hdecode).symm.trans h
      exact ⟨f.operandBytes, congrArg Prod.snd (Except.ok.inj hok)⟩

/-- A CPU pulse that answers a next state ends a fetched instruction, or counts inside one. -/
theorem cpuPulse_next {s t : State} (h : cpuPulse s = .next t) :
    (∃ i s1 s2, fetch s = .ok (i, s1) ∧ exec i s1 = .next s2 ∧ t = tick s2) ∨ t = tick s := by
  unfold cpuPulse at h
  split at h
  · split at h
    · cases h
    · next i s1 hfetch =>
      obtain ⟨s2, hexec, -⟩ := hasOutcome i s1
      rw [hexec] at h
      exact .inl ⟨i, s1, s2, hfetch, hexec, (Host.Outcome.next.inj h).symm⟩
  · exact .inr (Host.Outcome.next.inj h).symm

section Parts

variable {I : State → Prop} (hI : KeptByParts I) {s t : State}
include hI

theorem KeptByParts.setPc (a : Addr) (h : I s) : I (s.setPc a) := hI.cpuOnly s _ (OutsideIs.refl s) id h

theorem KeptByParts.tick (h : I s) : I (tick s) := hI.cpuOnly s _ (OutsideIs.refl s) id h

theorem KeptByParts.busRun {places : List Place} (hrun : BusRun places s t) (h : I s) : I t := by
  induction hrun with
  | refl => exact h
  | read _ a ih => exact hI.read _ a ih
  | write _ a v _ ih => exact hI.write _ a v ih

theorem KeptByParts.fetchByte (h : I s) : I (fetchByte s).2 := hI.setPc _ (hI.read s _ h)

theorem KeptByParts.fetchBytes (n : Nat) (h : I s) : I (fetchBytes n s).2 := by
  induction n generalizing s with
  | zero => exact h
  | succ n ih => exact ih (hI.fetchByte h)

theorem KeptByParts.fetch {i : Instr} (hfetch : fetch s = .ok (i, t)) (h : I s) : I t := by
  obtain ⟨n, rfl⟩ := state_of_fetch hfetch
  exact hI.fetchBytes n (hI.fetchByte h)

theorem KeptByParts.exec {i : Instr} (hexec : exec i s = .next t) (h : I s) : I t := by
  have hout := instrOutcome_of_exec hexec
  obtain ⟨u, hrun, hu⟩ := hout.outside
  have hp : u.cpu.inv = s.cpu.inv := by rw [Cpu.inv, Cpu.inv, hrun.cpu_p]
  exact hI.cpuOnly u t hu (fun hinv => hout.cpu_inv (hp ▸ hinv)) (hI.busRun hrun h)

theorem KeptByParts.cpuPulse (hpulse : cpuPulse s = .next t) (h : I s) : I t := by
  obtain ⟨i, s1, s2, hfetch, hexec, rfl⟩ | rfl := cpuPulse_next hpulse
  · exact hI.tick (hI.exec hexec (hI.fetch hfetch h))
  · exact hI.tick h

theorem KeptByParts.ppuPulses (inp : HostInputs) (h : I s) : I (ppuPulses inp s) :=
  hI.ppu _ (hI.events _ _ (hI.ppu _ (hI.events _ _ (hI.ppu _ (hI.events _ _ h)))))

theorem KeptByParts.iteration {inp : HostInputs} (hstep : iteration inp s = .next t) (h : I s) : I t := by
  unfold Machine.iteration at hstep
  split at hstep
  · next s1 hpulse =>
    injection hstep with ht
    exact ht ▸ hI.ppuPulses inp (hI.cpuPulse hpulse (hI.events _ _ h))
  · cases hstep
  · cases hstep

theorem KeptByParts.step (hstep : step s = .next t) (h : I s) : I t := by
  unfold Machine.step nextIteration at hstep
  split at hstep
  · exact hI.iteration hstep h
  · exact hI.iteration hstep (hI.inputs _ _ h)

end Parts

/-- Settles O60: each part of a step keeps the invariant, an instruction because no mnemonic writes `B` or `U`. -/
theorem stepKeepsInvariant : Obligations.StepKeepsInvariant := by
  have hparts : KeptByParts fun s => s.inv = true :=
    { read := fun _ _ => busTouch_inv
      write := fun _ _ _ => busWrite_inv
      cpuOnly := fun s _ hout hcpu h => s.inv_cpu h hout (hcpu ((State.inv_iff s).1 h).1)
      events := fun _ _ => hostEvents_inv
      ppu := fun _ => ppuPulse_inv
      inputs := fun _ _ => State.inv_setInputs }
  exact fun s t hinv hstep => hparts.step hstep hinv

theorem BusRun.params_inputs {places : List Place} {s u : State} (h : BusRun places s u) :
    u.params = s.params ∧ u.inputs = s.inputs := by
  induction h with
  | refl => exact ⟨rfl, rfl⟩
  | read _ a ih => rwa [busTouch_params, busTouch_inputs]
  | write _ a v _ ih => rwa [busWrite_params, busWrite_inputs]

/-- Settles O9: every instruction has an outcome, and bus accesses keep the parameters and the inputs. -/
theorem everyInstructionCompletes : Obligations.EveryInstructionCompletes := by
  intro i s
  obtain ⟨t, hexec, hout⟩ := hasOutcome i s
  obtain ⟨n, hn, hcyc, htotal⟩ := hout.pulses
  obtain ⟨u, hrun, -, -, -, -, -, -, -, hparams, hinputs⟩ := hout.outside
  obtain ⟨hparams', hinputs'⟩ := hrun.params_inputs
  exact ⟨t, hexec, hcyc ▸ hn, htotal, hparams.trans hparams', hinputs.trans hinputs'⟩

/-- Settles O26: the writers are part of the instruction's outcome. -/
theorem flagAndRegisterWriters : Obligations.FlagAndRegisterWriters := by
  intro i s t hexec
  have hout := instrOutcome_of_exec hexec
  exact ⟨hout.flags, hout.regs, hout.pc⟩

end Sys2Proof.Machine
end

section
/-! The step: the order of an iteration (00_scope.md R12), the fetch (40_cpu_engine.md R170), and what a CPU pulse does
between instructions and inside one. -/

namespace Sys2Proof.Machine

/-! ### The CPU pulse by its cases -/

theorem cpuPulse_of_fault {s : State} {r : Fault} (hcyc : s.cpu.cyc = 0) (hfetch : fetch s = .error r) :
    cpuPulse s = .fault r := by
  rw [cpuPulse, if_pos hcyc, hfetch]

theorem cpuPulse_of_exec {s s1 t : State} {i : Instr} (hcyc : s.cpu.cyc = 0) (hfetch : fetch s = .ok (i, s1))
    (hexec : exec i s1 = .next t) : cpuPulse s = .next (tick t) := by
  rw [cpuPulse, if_pos hcyc, hfetch]
  simp only [hexec]

theorem cpuPulse_of_busy {s : State} (hcyc : s.cpu.cyc ≠ 0) : cpuPulse s = .next (tick s) := by
  rw [cpuPulse, if_neg hcyc]

/-! ### The iteration -/

theorem iteration_of_next {inp : HostInputs} {s t : State} (h : cpuPulse (hostEvents inp.beforeCpu s) = .next t) :
    iteration inp s = .next (ppuPulses inp t) := by
  rw [iteration, h]

theorem iteration_of_fault {inp : HostInputs} {s : State} {r : Fault}
    (h : cpuPulse (hostEvents inp.beforeCpu s) = .fault r) : iteration inp s = .fault r := by
  rw [iteration, h]

theorem step_of_noInputs {s : State} (h : s.inputs = []) : step s = iteration quietInputs s := by
  rw [step, nextIteration, h]

theorem step_of_inputs {s : State} {inp : HostInputs} {rest : List HostInputs} (h : s.inputs = inp :: rest) :
    step s = iteration inp (s.setInputs rest) := by
  rw [step, nextIteration, h]

theorem setInputs_self {s : State} {l : List HostInputs} (h : s.inputs = l) : s.setInputs l = s := by
  subst h
  rfl

/-- Settles O8: the step is the iteration of the first inputs, and a used-up list is the empty input. -/
theorem iterationOrder : Obligations.IterationOrder := by
  intro s inp rest h
  have hstep : step s = iteration inp (s.setInputs rest) := by
    obtain h | ⟨hnone, rfl, rfl⟩ := h
    · exact step_of_inputs h
    · exact (step_of_noInputs hnone).trans (congrArg _ (setInputs_self hnone).symm)
  exact ⟨fun t ht => hstep.trans (iteration_of_next ht), fun f hf => hstep.trans (iteration_of_fault hf)⟩

/-! ### The fetch -/

theorem fetchBytes_succ (n : Nat) (s : State) : fetchBytes (n + 1) s =
    ((fetchByte s).1 :: (fetchBytes n (fetchByte s).2).1, (fetchBytes n (fetchByte s).2).2) := rfl

/-- A fetch that reads the encoding of `i` answers `i`. -/
theorem fetch_of_encode {s s1 : State} {i : Instr} (h : fetchBytes (encode i).length s = (encode i, s1)) :
    fetch s = .ok (i, s1) := by
  have hrow := rowBytes_encode i
  obtain ⟨opcode, operand, f, hbytes, hform, hlen⟩ := hrow.exists_opcode
  have hdecode : decode (encode i ++ []) = .ok (i, []) := hrow.decode_append []
  rw [hbytes, List.length_cons, fetchBytes_succ, hlen] at h
  obtain ⟨hhead, htail⟩ := List.cons.inj (congrArg Prod.fst h)
  rw [List.append_nil, hbytes, ← hhead, ← htail] at hdecode
  exact (fetch_of_decode (hhead ▸ hform) hdecode).trans (congrArg (fun u => Except.ok (i, u)) (congrArg Prod.snd h))

/-- A byte of RAM or behind the mapper is fetched without a side effect. -/
theorem fetchByte_of_quiet {s : State} (h : busRegion s.cpu.pc = .ram ∨ busRegion s.cpu.pc = .mapper) :
    fetchByte s = (busPeek s s.cpu.pc, s.setPc (s.cpu.pc + 1#16)) := by
  have hquiet : busTouch s s.cpu.pc = s := by
    obtain h | h := h <;> exact busTouch_quiet (by simp [h]) (by simp [h]) (by simp [h])
  rw [fetchByte, hquiet]

theorem fetchBytes_of_quiet (n : Nat) (s : State)
    (h : ∀ k, k < n → busRegion (s.cpu.pc + BitVec.ofNat 16 k) = .ram ∨
      busRegion (s.cpu.pc + BitVec.ofNat 16 k) = .mapper) :
    fetchBytes n s = ((List.range n).map fun k => busPeek s (s.cpu.pc + BitVec.ofNat 16 k),
      s.setPc (s.cpu.pc + BitVec.ofNat 16 n)) := by
  induction n generalizing s with
  | zero => rw [BitVec.add_zero]; rfl
  | succ n ih =>
    have hshift : ∀ k, s.cpu.pc + 1#16 + BitVec.ofNat 16 k = s.cpu.pc + BitVec.ofNat 16 (k + 1) := fun k => by
      rw [BitVec.add_assoc, Nat.add_comm k, BitVec.ofNat_add]
    have hbyte : fetchByte s = (busPeek s s.cpu.pc, s.setPc (s.cpu.pc + 1#16)) := by
      have h0 := h 0 n.succ_pos
      rw [BitVec.add_zero] at h0
      exact fetchByte_of_quiet h0
    have hrest := ih (s.setPc (s.cpu.pc + 1#16)) fun k hk => by
      rw [State.setPc_cpu_pc, hshift]
      exact h (k + 1) (Nat.succ_lt_succ hk)
    simp only [State.setPc_cpu_pc, hshift] at hrest
    rw [fetchBytes_succ, hbyte, hrest, List.range_succ_eq_map, List.map_cons, List.map_map,
      BitVec.add_zero]
    rfl

/-- Settles O5: the fetch answers the instruction, which completes; the rest of the step is the quiet iteration. -/
theorem stepRunsDecodedInstruction : Obligations.StepRunsDecodedInstruction := by
  refine ⟨fun s s1 i hinputs hcyc hfetch => ?_, fun s n => fetchBytes_of_quiet n s⟩
  obtain ⟨t, hexec, -⟩ := hasOutcome i s1
  have hpulse : cpuPulse s = .next (tick t) := cpuPulse_of_exec hcyc (fetch_of_encode hfetch) hexec
  exact ⟨t, hexec, (step_of_noInputs hinputs).trans (iteration_of_next hpulse)⟩

/-- Settles O6: the bytes of the list are those with no form, and the fetch stops at one. -/
theorem illegalOpcodeStopsTheStep : Obligations.IllegalOpcodeStopsTheStep := by
  intro s hinputs hcyc hillegal
  have hfetch := fetch_of_illegal (s := s) ((formOf_eq_none_iff _).2 hillegal)
  exact (step_of_noInputs hinputs).trans (iteration_of_fault (cpuPulse_of_fault hcyc hfetch))

/-! ### The pulse counter -/

theorem fetchByte_total (s : State) : (fetchByte s).2.cpu.total = s.cpu.total := by
  rw [fetchByte, State.setPc_cpu_total, busTouch_cpu]

theorem fetchBytes_total (n : Nat) (s : State) : (fetchBytes n s).2.cpu.total = s.cpu.total := by
  induction n generalizing s with
  | zero => rfl
  | succ n ih => exact (ih _).trans (fetchByte_total s)

theorem fetch_total {s t : State} {i : Instr} (h : fetch s = .ok (i, t)) : t.cpu.total = s.cpu.total := by
  obtain ⟨n, rfl⟩ := state_of_fetch h
  exact (fetchBytes_total n _).trans (fetchByte_total s)

/-- Settles O7: inside an instruction a CPU pulse is `tick`; otherwise fetch and instruction keep the count. -/
theorem midInstructionPulseOnlyCounts : Obligations.MidInstructionPulseOnlyCounts := by
  refine ⟨fun s hcyc => ⟨_, cpuPulse_of_busy hcyc, OutsideIs.refl s, rfl⟩, fun s t hpulse => ?_⟩
  obtain ⟨i, s1, s2, hfetch, hexec, rfl⟩ | rfl := cpuPulse_next hpulse
  · obtain ⟨n, -, -, htotal⟩ := (instrOutcome_of_exec hexec).pulses
    exact congrArg (· + 1) (htotal.trans (fetch_total hfetch))
  · rfl

end Sys2Proof.Machine
end

section
/-! Effective addresses, unmapped bus addresses and the scroll register as arithmetic (40_cpu_engine.md R176 to R184,
20_memory.md R86 to R92, 47_ppu_background.md R360 to R363). -/

namespace Sys2Proof.Machine

/-! ### Effective addresses -/

theorem zext16_toNat (b : Byte) : (zext16 b).toNat = b.toNat := by
  rw [zext16, BitVec.toNat_setWidth]
  exact Nat.mod_eq_of_lt (Nat.lt_trans b.isLt (by decide))

theorem zeroPageWord_toNat (s : State) (z : Byte) : (zeroPageWord s z).toNat =
    (ramRead s z.toNat).toNat + 256 * (ramRead s ((z.toNat + 1) % 256)).toNat := by
  rw [zeroPageWord, word16_toNat, busPeek_zp, busPeek_zp, BitVec.toNat_add]
  exact Nat.add_comm _ _

/-- Settles O25: 8-bit sums wrap inside page 0, 16-bit sums in the address space. -/
theorem effectiveAddresses : Obligations.EffectiveAddresses := by
  intro s z a
  refine ⟨zext16_toNat z, ?_, ?_, rfl, ?_, ?_, ?_, ?_⟩
  · rw [eaZpx, zext16_toNat, BitVec.toNat_add]
  · rw [eaZpy, zext16_toNat, BitVec.toNat_add]
  · rw [eaAbx, BitVec.toNat_add, zext16_toNat]
  · rw [eaAby, BitVec.toNat_add, zext16_toNat]
  · rw [eaIzx, zeroPageWord_toNat, BitVec.toNat_add, Nat.mod_add_mod]
  · rw [eaIzy, BitVec.toNat_add, zext16_toNat, zeroPageWord_toNat]

/-! ### Addresses with nothing behind them -/

theorem busRegion_unmapped {a : Addr}
    (h : 0x4000 ≤ a.toNat ∧ a.toNat ≤ 0x4013 ∨ a.toNat = 0x4015 ∨ 0x4018 ≤ a.toNat ∧ a.toNat ≤ 0x5FFF) :
    busRegion a = .unmapped := by
  rw [busRegion, if_neg (by omega), if_neg (by omega), if_neg (by omega), if_neg (by omega), if_neg (by omega),
    if_pos (by omega)]

/-- Settles O30: nothing stands behind these addresses in the map. -/
theorem unmappedAddresses : Obligations.UnmappedAddresses := by
  intro s a v
  refine ⟨fun h => ?_, fun h => ?_, fun h => ?_⟩
  · have hregion := busRegion_unmapped h
    exact ⟨by rw [busPeek, hregion], by rw [busTouch, hregion], by rw [busWrite, hregion]⟩
  · have hregion : busRegion a = .oamDma := by simp [busRegion, h]
    exact ⟨by rw [busPeek, hregion], by rw [busTouch, hregion]⟩
  · rw [busWrite, (busRegion_pad2_iff a).2 h]

/-! ### The scroll register -/

/-- The scroll register made of its fields: fine Y, the two nametable bits, coarse Y, coarse X (R323). -/
def scrollOf (fy : BitVec 3) (ntY ntX : Bool) (cy cx : BitVec 5) : BitVec 15 :=
  fy ++ (BitVec.ofBool ntY ++ (BitVec.ofBool ntX ++ (cy ++ cx)))

variable (fy : BitVec 3) (ntY ntX : Bool) (cy cx : BitVec 5)

theorem scrollOf_getLsbD (i : Nat) (hi : i < 15) : (scrollOf fy ntY ntX cy cx).getLsbD i =
    if i < 5 then cx.getLsbD i else if i < 10 then cy.getLsbD (i - 5) else if i = 10 then ntX
      else if i = 11 then ntY else fy.getLsbD (i - 12) := by
  simp only [scrollOf, BitVec.getLsbD_append]
  interval_cases i <;> simp

@[simp] theorem coarseX_scrollOf : coarseX (scrollOf fy ntY ntX cy cx) = cx := by
  refine BitVec.eq_of_getLsbD_eq fun i hi => ?_
  rw [coarseX, BitVec.getLsbD_extractLsb', Nat.zero_add, scrollOf_getLsbD _ _ _ _ _ _ (by omega)]
  simp [hi]

@[simp] theorem coarseY_scrollOf : coarseY (scrollOf fy ntY ntX cy cx) = cy := by
  refine BitVec.eq_of_getLsbD_eq fun i hi => ?_
  rw [coarseY, BitVec.getLsbD_extractLsb', scrollOf_getLsbD _ _ _ _ _ _ (by omega), if_neg (by omega),
    if_pos (by omega), Nat.add_sub_cancel_left]
  simp [hi]

@[simp] theorem fineY_scrollOf : fineY (scrollOf fy ntY ntX cy cx) = fy := by
  refine BitVec.eq_of_getLsbD_eq fun i hi => ?_
  rw [fineY, BitVec.getLsbD_extractLsb', scrollOf_getLsbD _ _ _ _ _ _ (by omega), if_neg (by omega),
    if_neg (by omega), if_neg (by omega), if_neg (by omega), Nat.add_sub_cancel_left]
  simp [hi]

@[simp] theorem scrollOf_getElem_ten : (scrollOf fy ntY ntX cy cx)[10] = ntX :=
  scrollOf_getLsbD _ _ _ _ _ 10 (by decide)

@[simp] theorem scrollOf_getElem_eleven : (scrollOf fy ntY ntX cy cx)[11] = ntY :=
  scrollOf_getLsbD _ _ _ _ _ 11 (by decide)

theorem scrollOf_fields (v : BitVec 15) :
    scrollOf (fineY v) (v.getLsbD 11) (v.getLsbD 10) (coarseY v) (coarseX v) = v := by
  refine BitVec.eq_of_getLsbD_eq fun i hi => ?_
  rw [scrollOf_getLsbD _ _ _ _ _ _ hi]
  interval_cases i <;> simp [fineY, coarseY, coarseX]

theorem scrollOf_toNat : (scrollOf fy ntY ntX cy cx).toNat =
    4096 * fy.toNat + (2048 * ntY.toNat + (1024 * ntX.toNat + (32 * cy.toNat + cx.toNat))) := by
  simp only [scrollOf, append_toNat, BitVec.toNat_ofBool]
  rfl

/-! The masks and sums of the updates, each on its field. -/

theorem scrollOf_and_0x7FE0 : scrollOf fy ntY ntX cy cx &&& 0x7FE0#15 = scrollOf fy ntY ntX cy 0#5 := by
  refine BitVec.eq_of_getLsbD_eq fun i hi => ?_
  rw [scrollOf_getLsbD _ _ _ _ _ _ hi, BitVec.getLsbD_and, scrollOf_getLsbD _ _ _ _ _ _ hi]
  interval_cases i <;> simp

theorem scrollOf_and_0x0FFF : scrollOf fy ntY ntX cy cx &&& 0x0FFF#15 = scrollOf 0#3 ntY ntX cy cx := by
  refine BitVec.eq_of_getLsbD_eq fun i hi => ?_
  rw [scrollOf_getLsbD _ _ _ _ _ _ hi, BitVec.getLsbD_and, scrollOf_getLsbD _ _ _ _ _ _ hi]
  interval_cases i <;> simp

theorem scrollOf_and_0x7C1F : scrollOf fy ntY ntX cy cx &&& 0x7C1F#15 = scrollOf fy ntY ntX 0#5 cx := by
  refine BitVec.eq_of_getLsbD_eq fun i hi => ?_
  rw [scrollOf_getLsbD _ _ _ _ _ _ hi, BitVec.getLsbD_and, scrollOf_getLsbD _ _ _ _ _ _ hi]
  interval_cases i <;> simp

theorem scrollOf_xor_0x0400 : scrollOf fy ntY ntX cy cx ^^^ 0x0400#15 = scrollOf fy ntY (!ntX) cy cx := by
  refine BitVec.eq_of_getLsbD_eq fun i hi => ?_
  rw [scrollOf_getLsbD _ _ _ _ _ _ hi, BitVec.getLsbD_xor, scrollOf_getLsbD _ _ _ _ _ _ hi]
  interval_cases i <;> simp

theorem scrollOf_xor_0x0800 : scrollOf fy ntY ntX cy cx ^^^ 0x0800#15 = scrollOf fy (!ntY) ntX cy cx := by
  refine BitVec.eq_of_getLsbD_eq fun i hi => ?_
  rw [scrollOf_getLsbD _ _ _ _ _ _ hi, BitVec.getLsbD_xor, scrollOf_getLsbD _ _ _ _ _ _ hi]
  interval_cases i <;> simp

variable {fy cy cx}

theorem scrollOf_add_0x0001 (h : cx ≠ 31#5) : scrollOf fy ntY ntX cy cx + 1#15 = scrollOf fy ntY ntX cy (cx + 1#5) := by
  have hx : cx.toNat ≠ 31 := fun h' => h (BitVec.eq_of_toNat_eq h')
  have hlt := (scrollOf fy ntY ntX cy cx).isLt
  apply BitVec.eq_of_toNat_eq
  simp only [BitVec.toNat_add, scrollOf_toNat, BitVec.toNat_ofNat] at hlt ⊢
  omega

theorem scrollOf_add_0x0020 (h : cy ≠ 31#5) :
    scrollOf fy ntY ntX cy cx + 0x0020#15 = scrollOf fy ntY ntX (cy + 1#5) cx := by
  have hy : cy.toNat ≠ 31 := fun h' => h (BitVec.eq_of_toNat_eq h')
  have hx := cx.isLt
  have hlt := (scrollOf fy ntY ntX cy cx).isLt
  apply BitVec.eq_of_toNat_eq
  simp only [BitVec.toNat_add, scrollOf_toNat, BitVec.toNat_ofNat] at hlt ⊢
  omega

theorem scrollOf_add_0x1000 (h : fy ≠ 7#3) :
    scrollOf fy ntY ntX cy cx + 0x1000#15 = scrollOf (fy + 1#3) ntY ntX cy cx := by
  have hy : fy.toNat ≠ 7 := fun h' => h (BitVec.eq_of_toNat_eq h')
  have hntY := ntY.toNat_le
  have hntX := ntX.toNat_le
  have hcy := cy.isLt
  have hcx := cx.isLt
  apply BitVec.eq_of_toNat_eq
  simp only [BitVec.toNat_add, scrollOf_toNat, BitVec.toNat_ofNat]
  omega

variable (fy cy cx)

/-- Coarse X steps to the next column, from column 31 to column 0 of the other nametable (R360). -/
theorem incCoarseX_scrollOf : incCoarseX (scrollOf fy ntY ntX cy cx) =
    if cx = 31#5 then scrollOf fy ntY (!ntX) cy 0#5 else scrollOf fy ntY ntX cy (cx + 1#5) := by
  rw [incCoarseX, coarseX_scrollOf, scrollOf_and_0x7FE0, scrollOf_xor_0x0400]
  split
  · rfl
  · next hx => exact scrollOf_add_0x0001 _ _ hx

/-- Fine Y steps, and at 7 coarse Y: from row 29 to row 0 of the other nametable, from row 31 to row 0 of this
(R361). -/
theorem incFineY_scrollOf : incFineY (scrollOf fy ntY ntX cy cx) =
    if fy = 7#3 then
      if cy = 29#5 then scrollOf 0#3 (!ntY) ntX 0#5 cx
      else if cy = 31#5 then scrollOf 0#3 ntY ntX 0#5 cx
      else scrollOf 0#3 ntY ntX (cy + 1#5) cx
    else scrollOf (fy + 1#3) ntY ntX cy cx := by
  simp only [incFineY, fineY_scrollOf, coarseY_scrollOf, scrollOf_and_0x0FFF, scrollOf_and_0x7C1F, scrollOf_xor_0x0800]
  split_ifs with hf h29 h31
  · rfl
  · rfl
  · exact scrollOf_add_0x0020 _ _ h31
  · exact scrollOf_add_0x1000 _ _ hf

/-- Settles O43: the increments on a register made of its fields, the copies bit by bit. -/
theorem scrollUpdates : Obligations.ScrollUpdates := by
  intro t v
  refine ⟨?_, ?_, ?_, ?_⟩
  · rw [← scrollOf_fields v]
    generalize fineY v = fy, v.getLsbD 11 = ntY, v.getLsbD 10 = ntX, coarseY v = cy, coarseX v = cx
    simp only [incCoarseX_scrollOf, coarseX_scrollOf]
    by_cases hx : cx = 31#5 <;> simp [hx]
  · rw [← scrollOf_fields v]
    generalize fineY v = fy, v.getLsbD 11 = ntY, v.getLsbD 10 = ntX, coarseY v = cy, coarseX v = cx
    simp only [incFineY_scrollOf, fineY_scrollOf, coarseY_scrollOf]
    by_cases hf : fy = 7#3
    · by_cases h29 : cy = 29#5
      · simp [hf, h29]
      · by_cases h31 : cy = 31#5 <;> simp [hf, h29, h31]
    · simp [hf]
  · intro i hi
    rw [copyHorizontal]
    interval_cases i <;> simp
  · intro i hi
    rw [copyVertical]
    interval_cases i <;> simp

end Sys2Proof.Machine
end

section
/-! Which bytes of memory a bus access changes: a write gives its byte to exactly the places of `storePlaces`
(20_memory.md R83, R97, R98, R103, R112), and a read changes none. -/

namespace Sys2Proof.Machine

/-- The memories of `t` are those of `s`. -/
structure SameMemory (s t : State) : Prop where
  ram : t.ram = s.ram
  vram : t.vram = s.vram
  oam : t.ppu.oam = s.ppu.oam
  pal : t.ppu.pal = s.ppu.pal
  cart : t.cart = s.cart

theorem SameMemory.refl (s : State) : SameMemory s s := ⟨rfl, rfl, rfl, rfl, rfl⟩

theorem SameMemory.placeByte {s t : State} (h : SameMemory s t) (p : Place) : placeByte t p = placeByte s p := by
  obtain ⟨hram, hvram, hoam, hpal, hcart⟩ := h
  cases p with
  | ram i => rw [Machine.placeByte, ramRead, hram]; rfl
  | vram i => rw [Machine.placeByte, vramRead, hvram]; rfl
  | oam i => rw [Machine.placeByte, oamRead, hoam]; rfl
  | pal i => rw [Machine.placeByte, palRead, hpal]; rfl
  | prgRam i => rw [Machine.placeByte, prgRamRead, hcart]; rfl
  | chr i => rw [Machine.placeByte, chrRead, hcart]; rfl
  | prgRom i => rw [Machine.placeByte, prgRomRead, hcart]; rfl

theorem OutsideIs.sameMemory {s t : State} (h : OutsideIs s t) : SameMemory s t := by
  obtain ⟨hppu, hram, hvram, hcart, -⟩ := h
  exact ⟨hram, hvram, congrArg Ppu.oam hppu, congrArg Ppu.pal hppu, hcart⟩

theorem sameMemory_setPpu (s : State) {p : Ppu} (hoam : p.oam = s.ppu.oam) (hpal : p.pal = s.ppu.pal) :
    SameMemory s (s.setPpu p) := ⟨rfl, rfl, hoam, hpal, rfl⟩

/-! ### Reads -/

theorem sameMemory_ppuRegTouch (s : State) (r : Nat) : SameMemory s (ppuRegTouch s r) := by
  unfold ppuRegTouch
  split
  · exact sameMemory_setPpu s rfl rfl
  · rw [incV_eq_setV]
    exact sameMemory_setPpu s rfl rfl
  · exact .refl s

theorem sameMemory_busTouch (s : State) (a : Addr) : SameMemory s (busTouch s a) := by
  unfold busTouch
  split
  · exact .refl s
  · exact sameMemory_ppuRegTouch s _
  · exact .refl s
  · exact ⟨rfl, rfl, rfl, rfl, rfl⟩
  · exact ⟨rfl, rfl, rfl, rfl, rfl⟩
  all_goals exact .refl s

/-! ### Writes of one byte -/

section Writes

variable {s : State} (hinv : s.inv = true) (v : Byte) (p : Place)
include hinv

theorem placeByte_ramWrite (i : Nat) :
    placeByte (ramWrite s i v) p = if p ∈ [Place.ram i] then v else placeByte s p := by
  obtain ⟨-, -, hram, -⟩ := (State.inv_iff s).1 hinv
  cases p with
  | ram j => simp [placeByte, ramRead, ramWrite, Memory.read_write hram]
  | vram j | oam j | pal j | prgRam j | chr j | prgRom j => simp; rfl

theorem placeByte_vramWrite (i : Nat) :
    placeByte (vramWrite s i v) p = if p ∈ [Place.vram i] then v else placeByte s p := by
  obtain ⟨-, -, -, hvram, -⟩ := (State.inv_iff s).1 hinv
  cases p with
  | vram j => simp [placeByte, vramRead, vramWrite, Memory.read_write hvram]
  | ram j | oam j | pal j | prgRam j | chr j | prgRom j => simp; rfl

theorem placeByte_prgRamWrite (i : Nat) :
    placeByte (prgRamWrite s i v) p = if p ∈ [Place.prgRam i] then v else placeByte s p := by
  obtain ⟨-, -, -, -, hcart, -⟩ := (State.inv_iff s).1 hinv
  obtain ⟨-, -, -, -, -, hprgRam⟩ := (Cart.inv_iff _).1 hcart
  cases p with
  | prgRam j => simp [placeByte, prgRamRead, prgRamWrite, Memory.read_write hprgRam]
  | ram j | vram j | oam j | pal j | chr j | prgRom j => simp; rfl

theorem placeByte_chrWrite (i : Nat) :
    placeByte (chrWrite s i v) p = if p ∈ [Place.chr i] then v else placeByte s p := by
  obtain ⟨-, -, -, -, hcart, -⟩ := (State.inv_iff s).1 hinv
  obtain ⟨-, -, -, -, hchr, -⟩ := (Cart.inv_iff _).1 hcart
  cases p with
  | chr j => simp [placeByte, chrRead, chrWrite, Memory.read_write hchr]
  | ram j | vram j | oam j | pal j | prgRam j | prgRom j => simp; rfl

theorem placeByte_oamWrite (i : Nat) :
    placeByte (s.setPpu (oamWrite s.ppu i v)) p = if p ∈ [Place.oam i] then v else placeByte s p := by
  obtain ⟨-, -, -, -, hoam, -⟩ := (Ppu.inv_iff _).1 (State.inv_ppu hinv)
  cases p with
  | oam j => simp [placeByte, oamRead, oamWrite, Memory.read_write hoam]
  | ram j | vram j | pal j | prgRam j | chr j | prgRom j => simp; rfl

/-- A palette write gives its byte to every index of its cell (R103). -/
theorem placeByte_palWrite (i : Nat) : placeByte (s.setPpu (palWrite s.ppu i v)) p =
    if p ∈ ((List.finRange 32).filter fun j => palIndex j.toNat = palIndex i).map Place.pal then v
    else placeByte s p := by
  obtain ⟨-, -, -, -, -, hpal, -⟩ := (Ppu.inv_iff _).1 (State.inv_ppu hinv)
  cases p with
  | pal j =>
    have hmem : palIndex j = palIndex i ↔
        Place.pal j ∈ ((List.finRange 32).filter fun j => palIndex j.toNat = palIndex i).map Place.pal := by
      rw [List.mem_map_of_injective fun _ _ => Place.pal.inj, List.mem_filter, decide_eq_true_iff]
      exact ⟨fun h => ⟨List.mem_finRange j, h⟩, And.right⟩
    exact (Memory.read_write hpal _ _ v).trans (if_congr hmem rfl rfl)
  | ram j | vram j | oam j | prgRam j | chr j | prgRom j => simp; rfl

theorem placeByte_ppuWr (a : BitVec 14) :
    placeByte (ppuWr s a v) p = if p ∈ ppuStorePlaces s a then v else placeByte s p := by
  rw [ppuWr, ppuStorePlaces]
  split
  · rw [mapperPpuWrite]
    split
    · exact placeByte_chrWrite hinv v p _
    · rfl
  · exact placeByte_vramWrite hinv v p _

theorem placeByte_dataPortWrite :
    placeByte (dataPortWrite s v) p = if p ∈ dataPortPlaces s then v else placeByte s p := by
  by_cases h : 0x3F00 ≤ (dataPortAddr s.ppu).toNat
  · have hsame : SameMemory (s.setPpu (palWrite s.ppu (dataPortAddr s.ppu).toNat v)) (dataPortWrite s v) := by
      rw [dataPortWrite_palette h, incV_eq_setV]
      exact ⟨rfl, rfl, rfl, rfl, rfl⟩
    rw [dataPortPlaces, if_pos h, hsame.placeByte]
    exact placeByte_palWrite hinv v p _
  · have hsame : SameMemory (ppuWr s (dataPortAddr s.ppu) v) (dataPortWrite s v) := by
      have hppu : (ppuWr s (dataPortAddr s.ppu) v).ppu = s.ppu := ppuWr_ppu ..
      rw [dataPortWrite_memory (Nat.lt_of_not_le h), incV_eq_setV]
      exact sameMemory_setPpu _ (by rw [hppu]) (by rw [hppu])
    rw [dataPortPlaces, if_neg h, hsame.placeByte]
    exact placeByte_ppuWr hinv v p _

omit hinv in
theorem sameMemory_ppuRegWrite (s : State) {r : Nat} (h4 : r ≠ 4) (h7 : r ≠ 7) (v : Byte) :
    SameMemory s (ppuRegWrite s r v) := by
  unfold ppuRegWrite
  split
  · exact sameMemory_setPpu s rfl rfl
  · exact sameMemory_setPpu s rfl rfl
  · exact sameMemory_setPpu s rfl rfl
  · exact absurd rfl h4
  · exact sameMemory_setPpu s (by unfold scrollWrite; split <;> rfl) (by unfold scrollWrite; split <;> rfl)
  · exact sameMemory_setPpu s (by unfold addrWrite; split <;> rfl) (by unfold addrWrite; split <;> rfl)
  · exact absurd rfl h7
  · exact .refl s

theorem placeByte_ppuRegWrite (r : Nat) : placeByte (ppuRegWrite s r v) p =
    if p ∈ (if r = 4 then [.oam s.ppu.oamAddr.toNat] else if r = 7 then dataPortPlaces s else []) then v
    else placeByte s p := by
  by_cases h4 : r = 4
  · subst h4
    have hsame : SameMemory (s.setPpu (oamWrite s.ppu s.ppu.oamAddr.toNat v)) (ppuRegWrite s 4 v) :=
      ⟨rfl, rfl, rfl, rfl, rfl⟩
    rw [hsame.placeByte]
    exact placeByte_oamWrite hinv v p _
  · by_cases h7 : r = 7
    · subst h7
      exact placeByte_dataPortWrite hinv v p
    · rw [(sameMemory_ppuRegWrite s h4 h7 v).placeByte, if_neg h4, if_neg h7, if_neg List.not_mem_nil]

theorem placeByte_mapperCpuWrite (a : Nat) : placeByte (mapperCpuWrite s a v) p =
    if p ∈ (if a < 0x8000 ∧ prgRamEnabled s = true then [.prgRam (a - 0x6000)] else []) then v
    else placeByte s p := by
  by_cases ha : a < 0x8000
  · rw [mapperCpuWrite, if_pos ha]
    by_cases hen : prgRamEnabled s = true
    · simp only [ha, hen, and_self, if_true]
      exact placeByte_prgRamWrite hinv v p _
    · simp [hen]
  · rw [if_neg fun h : a < 0x8000 ∧ prgRamEnabled s = true => ha h.1, if_neg List.not_mem_nil, mapperCpuWrite,
      if_neg ha]
    split
    · rfl
    · exact SameMemory.placeByte ⟨rfl, rfl, rfl, rfl, rfl⟩ p
    · exact SameMemory.placeByte ⟨rfl, rfl, rfl, rfl, rfl⟩ p

/-- A write at an address other than $4014 gives its byte to the places of the address, and to no other. -/
theorem placeByte_busWrite {a : Addr} (ha : a ≠ 0x4014#16) :
    placeByte (busWrite s a v) p = if p ∈ storePlaces s a then v else placeByte s p := by
  rw [busWrite, storePlaces]
  cases hregion : busRegion a with
  | ram => exact placeByte_ramWrite hinv v p _
  | ppu => exact placeByte_ppuRegWrite hinv v p _
  | oamDma => exact absurd ((busRegion_oamDma a).1 hregion) ha
  | pad1 =>
    have hsame : SameMemory s ((s.setPad1 (padStrobe v s.pad1)).setPad2 (padStrobe v s.pad2)) :=
      ⟨rfl, rfl, rfl, rfl, rfl⟩
    simp [hsame.placeByte]
  | pad2 | unmapped => simp
  | mapper => exact placeByte_mapperCpuWrite hinv v p _

/-! ### DMA -/

/-- A DMA writes entries of OAM alone (49_dma_controllers.md R420). -/
theorem placeByte_dmaBytes (page : Byte) (n i : Nat) (hp : ∀ k < 256, p ≠ .oam k) :
    placeByte (dmaBytes page n i s) p = placeByte s p := by
  induction n generalizing i s with
  | zero => rfl
  | succ n ih =>
    have htouch := busTouch_inv (a := word16 page (BitVec.ofNat 8 i)) hinv
    have hnot : p ∉ [Place.oam ((busTouch s (word16 page (BitVec.ofNat 8 i))).ppu.oamAddr + BitVec.ofNat 8 i).toNat] :=
      fun h => hp _ (BitVec.isLt _) (List.mem_singleton.1 h)
    have hbyte : (dmaByte page (BitVec.ofNat 8 i) s).inv = true := dmaBytes_inv (n := 1) hinv
    rw [dmaBytes, ih hbyte, dmaByte, placeByte_oamWrite htouch, if_neg hnot,
      (sameMemory_busTouch ..).placeByte]

theorem placeByte_oamDma (page : Byte) (hp : p ∉ (List.range 256).map Place.oam) :
    placeByte (oamDma page s) p = placeByte s p := by
  have hsame : SameMemory (dmaBytes page 256 0 s) (oamDma page s) := ⟨rfl, rfl, rfl, rfl, rfl⟩
  rw [hsame.placeByte, placeByte_dmaBytes hinv p page]
  rintro k hk rfl
  exact hp (List.mem_map_of_mem (List.mem_range.2 hk))

theorem placeByte_busWrite_of_not_mem {a : Addr} (hp : p ∉ storePlaces s a) :
    placeByte (busWrite s a v) p = placeByte s p := by
  by_cases ha : a = 0x4014#16
  · subst ha
    exact placeByte_oamDma hinv p v hp
  · rw [placeByte_busWrite hinv v p ha, if_neg hp]

end Writes

/-! ### The statements -/

theorem BusRun.placeByte {places : List Place} {s u : State} (h : BusRun places s u) (hinv : s.inv = true) {p : Place}
    (hp : p ∉ places) : u.inv = true ∧ placeByte u p = placeByte s p := by
  induction h with
  | refl => exact ⟨hinv, rfl⟩
  | read _ a ih =>
    obtain ⟨huinv, hbyte⟩ := ih
    exact ⟨busTouch_inv huinv, ((sameMemory_busTouch ..).placeByte p).trans hbyte⟩
  | write _ a v hsub ih =>
    obtain ⟨huinv, hbyte⟩ := ih
    exact ⟨busWrite_inv huinv, (placeByte_busWrite_of_not_mem huinv v p fun h => hp (hsub h)).trans hbyte⟩

/-- Settles O27: an instruction is a run of bus accesses that store to its places alone, and a change of the CPU. -/
theorem memoryFrame : Obligations.MemoryFrame := by
  intro i s t p hinv hexec hp
  obtain ⟨u, hrun, hout⟩ := (instrOutcome_of_exec hexec).outside
  exact (hout.sameMemory.placeByte p).trans (hrun.placeByte hinv hp).2

/-- Settles O28: a bus write gives its byte to each of its places. -/
theorem storedByteReadsBack : Obligations.StoredByteReadsBack := by
  intro s a v p hinv ha hp
  rw [placeByte_busWrite hinv v p ha, if_pos hp]

end Sys2Proof.Machine
end

section
/-! What no step writes: ROM, the header, which mapper variant and which controllers are present, the launch parameters
(10_state.md, 20_memory.md R110). -/

namespace Sys2Proof.Machine

/-- `reset()` and its vector read (70_reset_and_hazards.md R483). -/
theorem hostReset_eq (s : State) : hostReset s =
    (s.withCpu { s.cpu with
      pc := word16 (busPeek s 0xFFFD#16) (busPeek s 0xFFFC#16), s := 0xFD#8, p := 0x24#8, cyc := 7
      fetched := 0#8, addr := 0#16 }).setPpu { s.ppu with ctrl := 0#8, mask := 0#8, w := false, readBuf := 0#8 } := by
  rw [hostReset, rd16_vector s Config.resetVector (by decide) (by decide)]
  rfl

/-- Settles O55: the vector read has no side effect. -/
theorem hostReset_spec : Obligations.HostReset := by
  intro s t
  have ht : t = _ := hostReset_eq s
  rw [ht]
  exact ⟨rfl, rfl, rfl, rfl, rfl, rfl, rfl, rfl, rfl, rfl⟩

/-! ### The launch state -/

/-- The number of the mapper variant. -/
def Mapper.variant : Mapper → Nat
  | .nrom => 0
  | .mmc1 _ => 1
  | .uxrom _ => 2

/-- `t` has the cartridge, the mapper variant, the controllers and the parameters of `s`, PRG-RAM and CHR-RAM apart. -/
structure SameLaunch (s t : State) : Prop where
  cart : t.cart = { s.cart with prgRam := t.cart.prgRam, chr := t.cart.chr }
  chr : s.cart.chrBanks ≠ 0 → t.cart.chr = s.cart.chr
  params : t.params = s.params
  variant : t.mapper.variant = s.mapper.variant
  pad1 : t.pad1.isSome = s.pad1.isSome
  pad2 : t.pad2.isSome = s.pad2.isSome

theorem SameLaunch.refl (s : State) : SameLaunch s s := ⟨rfl, fun _ => rfl, rfl, rfl, rfl, rfl⟩

theorem SameLaunch.trans {s t u : State} (h : SameLaunch s t) (k : SameLaunch t u) : SameLaunch s u where
  cart := by rw [k.cart, h.cart]
  chr hbanks := by
    have hbanks' : t.cart.chrBanks ≠ 0 := by rw [h.cart]; exact hbanks
    rw [k.chr hbanks', h.chr hbanks]
  params := k.params.trans h.params
  variant := k.variant.trans h.variant
  pad1 := k.pad1.trans h.pad1
  pad2 := k.pad2.trans h.pad2

theorem sameLaunch_of_eq {s t : State} (hcart : t.cart = s.cart) (hmapper : t.mapper = s.mapper)
    (hparams : t.params = s.params) (hpad1 : t.pad1.isSome = s.pad1.isSome) (hpad2 : t.pad2.isSome = s.pad2.isSome) :
    SameLaunch s t := by
  refine ⟨?_, fun _ => ?_, hparams, congrArg _ hmapper, hpad1, hpad2⟩ <;> rw [hcart]

theorem OutsideIs.sameLaunch {s t : State} (h : OutsideIs s t) : SameLaunch s t := by
  obtain ⟨-, -, -, hcart, hmapper, hpad1, hpad2, hparams, -⟩ := h
  exact sameLaunch_of_eq hcart hmapper hparams (congrArg _ hpad1) (congrArg _ hpad2)

theorem padTouch_isSome (tail : Bool) (p : Option Pad) : (padTouch tail p).isSome = p.isSome := by
  unfold padTouch
  split
  · rfl
  · split <;> rfl

theorem padStrobe_isSome (v : Byte) (p : Option Pad) : (padStrobe v p).isSome = p.isSome := by
  unfold padStrobe
  split
  · rfl
  · split <;> rfl

theorem setButtons_isSome (b : Byte) (p : Option Pad) : (setButtons b p).isSome = p.isSome := by
  cases p <;> rfl

/-! ### Bus accesses -/

theorem sameLaunch_setPpu (s : State) (p : Ppu) : SameLaunch s (s.setPpu p) := sameLaunch_of_eq rfl rfl rfl rfl rfl

theorem sameLaunch_setPads (s : State) {p1 p2 : Option Pad} (h1 : p1.isSome = s.pad1.isSome)
    (h2 : p2.isSome = s.pad2.isSome) : SameLaunch s ((s.setPad1 p1).setPad2 p2) :=
  sameLaunch_of_eq rfl rfl rfl h1 h2

theorem sameLaunch_ppuRegTouch (s : State) (r : Nat) : SameLaunch s (ppuRegTouch s r) := by
  unfold ppuRegTouch
  split
  · exact sameLaunch_setPpu s _
  · exact sameLaunch_setPpu s _
  · exact .refl s

theorem sameLaunch_busTouch (s : State) (a : Addr) : SameLaunch s (busTouch s a) := by
  unfold busTouch
  split
  · exact .refl s
  · exact sameLaunch_ppuRegTouch s _
  · exact .refl s
  · exact sameLaunch_setPads s (padTouch_isSome ..) rfl
  · exact sameLaunch_setPads s rfl (padTouch_isSome ..)
  · exact .refl s
  · exact .refl s

theorem sameLaunch_ppuWr (s : State) (a : BitVec 14) (v : Byte) : SameLaunch s (ppuWr s a v) := by
  unfold ppuWr mapperPpuWrite
  split
  · split
    · next hram =>
      exact ⟨rfl, fun hbanks => absurd (of_decide_eq_true hram) hbanks, rfl, rfl, rfl, rfl⟩
    · exact .refl s
  · exact sameLaunch_of_eq rfl rfl rfl rfl rfl

theorem sameLaunch_dataPortWrite (s : State) (v : Byte) : SameLaunch s (dataPortWrite s v) := by
  unfold dataPortWrite dataPortStore
  split
  · exact sameLaunch_setPpu s _
  · exact (sameLaunch_ppuWr s _ v).trans (sameLaunch_setPpu _ _)

theorem sameLaunch_ppuRegWrite (s : State) (r : Nat) (v : Byte) : SameLaunch s (ppuRegWrite s r v) := by
  unfold ppuRegWrite
  split
  case h_7 => exact sameLaunch_dataPortWrite s v
  case h_8 => exact .refl s
  all_goals exact sameLaunch_setPpu s _

theorem sameLaunch_dmaBytes (page : Byte) (n i : Nat) (s : State) : SameLaunch s (dmaBytes page n i s) := by
  induction n generalizing i s with
  | zero => exact .refl s
  | succ n ih => exact ((sameLaunch_busTouch s _).trans (sameLaunch_setPpu _ _)).trans (ih (i + 1) _)

theorem sameLaunch_mapperCpuWrite (s : State) (a : Nat) (v : Byte) : SameLaunch s (mapperCpuWrite s a v) := by
  unfold mapperCpuWrite
  split
  · split
    · exact ⟨rfl, fun _ => rfl, rfl, rfl, rfl, rfl⟩
    · exact .refl s
  · split
    · exact .refl s
    · next hmapper => exact ⟨rfl, fun _ => rfl, rfl, by rw [State.setMapper_mapper, hmapper]; rfl, rfl, rfl⟩
    · next hmapper => exact ⟨rfl, fun _ => rfl, rfl, by rw [State.setMapper_mapper, hmapper]; rfl, rfl, rfl⟩

theorem sameLaunch_busWrite (s : State) (a : Addr) (v : Byte) : SameLaunch s (busWrite s a v) := by
  unfold busWrite
  split
  · exact sameLaunch_of_eq rfl rfl rfl rfl rfl
  · exact sameLaunch_ppuRegWrite s _ v
  · exact (sameLaunch_dmaBytes v 256 0 s).trans (sameLaunch_of_eq rfl rfl rfl rfl rfl)
  · exact sameLaunch_setPads s (padStrobe_isSome ..) (padStrobe_isSome ..)
  · exact .refl s
  · exact .refl s
  · exact sameLaunch_mapperCpuWrite s _ v

/-! ### Host events and PPU pulses -/

theorem sameLaunch_ramWrite (s : State) (i : Nat) (v : Byte) : SameLaunch s (ramWrite s i v) :=
  sameLaunch_of_eq rfl rfl rfl rfl rfl

/-- An interrupt entry is three pushes and a change of the CPU. -/
theorem EntryOutcome.sameLaunch {vector : Addr} {s t : State} (h : EntryOutcome vector s t) : SameLaunch s t := by
  obtain ⟨-, -, -, -, -, -, -, hout⟩ := h
  exact (((sameLaunch_ramWrite s _ _).trans (sameLaunch_ramWrite _ _ _)).trans (sameLaunch_ramWrite _ _ _)).trans
    hout.sameLaunch

theorem sameLaunch_hostEvent (s : State) (e : HostEvent) : SameLaunch s (hostEvent s e) := by
  obtain ⟨-, hclear, hmasked⟩ := interruptEntry s
  cases e with
  | reset =>
    rw [hostEvent, hostReset_eq]
    exact sameLaunch_of_eq rfl rfl rfl rfl rfl
  | irq =>
    cases hi : flagI s.cpu.p with
    | false => exact (hclear hi).sameLaunch
    | true => exact (congrArg (SameLaunch s) (hmasked hi)).mpr (.refl s)
  | buttons1 b => exact sameLaunch_setPads s (setButtons_isSome ..) rfl
  | buttons2 b => exact sameLaunch_setPads s rfl (setButtons_isSome ..)

theorem sameLaunch_hostEvents (es : List HostEvent) (s : State) : SameLaunch s (hostEvents es s) := by
  induction es generalizing s with
  | nil => exact .refl s
  | cons e es ih => exact (sameLaunch_hostEvent s e).trans (ih _)

theorem sameLaunch_ppuPulse (s : State) : SameLaunch s (ppuPulse s) := by
  obtain ⟨-, hcart, hmapper, hpad1, hpad2, hparams, -⟩ := ppuPulse_keepsDevices s
  exact sameLaunch_of_eq hcart hmapper hparams (congrArg _ hpad1) (congrArg _ hpad2)

theorem sameLaunch_step {s t : State} (h : step s = .next t) : SameLaunch s t := by
  have hparts : KeptByParts (SameLaunch s) :=
    { read := fun u a hu => hu.trans (sameLaunch_busTouch u a)
      write := fun u a v hu => hu.trans (sameLaunch_busWrite u a v)
      cpuOnly := fun _ _ hout _ hu => hu.trans hout.sameLaunch
      events := fun es u hu => hu.trans (sameLaunch_hostEvents es u)
      ppu := fun u hu => hu.trans (sameLaunch_ppuPulse u)
      inputs := fun _ _ hu => hu.trans (sameLaunch_of_eq rfl rfl rfl rfl rfl) }
  exact hparts.step h (.refl s)

/-! ### The statement -/

theorem Mapper.variant_cases {m n : Mapper} (h : n.variant = m.variant) :
    (m = .nrom ↔ n = .nrom) ∧ ((∃ r, m = .mmc1 r) ↔ ∃ r, n = .mmc1 r) ∧ ((∃ b, m = .uxrom b) ↔ ∃ b, n = .uxrom b) := by
  cases m with
  | nrom | mmc1 _ | uxrom _ =>
    cases n with
    | nrom | mmc1 _ | uxrom _ => simp_all [Mapper.variant]

theorem eq_none_iff_of_isSome {p q : Option Pad} (h : q.isSome = p.isSome) : p = none ↔ q = none := by
  rw [← Option.not_isSome_iff_eq_none, ← h, Option.not_isSome_iff_eq_none]

/-- Settles O37: each part of a step keeps the launch state. -/
theorem romAndLaunchStateAreFixed : Obligations.RomAndLaunchStateAreFixed := by
  intro s t hstep
  have h := sameLaunch_step hstep
  obtain ⟨hnrom, hmmc1, huxrom⟩ := Mapper.variant_cases h.variant
  exact ⟨h.cart, h.chr, h.params, hnrom, hmmc1, huxrom, eq_none_iff_of_isSome h.pad1, eq_none_iff_of_isSome h.pad2⟩

end Sys2Proof.Machine
end

section
/-! Power-up and the loading of an image (70_reset_and_hazards.md R481, R490 to R497). -/

namespace Sys2Proof.Machine

/-! ### Power-up -/

/-- Settles O56: power-up is a constant state around the arguments, but for the reset vector's word. -/
theorem powerUpValues : Obligations.PowerUpValues := by
  intro c m init on1 on2 params s
  have hpc : s.cpu.pc = word16 (busPeek s 0xFFFD#16) (busPeek s 0xFFFC#16) := by
    exact congrArg Prod.fst (rd16_vector _ Config.resetVector (by decide) (by decide))
  have hchr : s.cart.chr = if c.chrBanks = 0 then init.chrRam else c.chr :=
    if_congr (decide_eq_true_iff (p := c.chrBanks = 0)) rfl rfl
  refine ⟨?_, rfl, rfl, rfl, rfl, rfl, rfl, rfl, rfl, rfl, rfl, rfl, rfl, rfl, rfl, rfl, rfl, rfl, rfl, rfl, rfl, rfl,
    rfl, rfl, rfl, rfl, rfl, rfl, fun k => ⟨rfl, rfl, rfl, rfl⟩, rfl, rfl, rfl, rfl, rfl, rfl, hchr, rfl, rfl, rfl⟩
  rw [← hpc]
  rfl

/-- Settles O59: the reset state is closed, and power-up of the blank cartridge computes to it. -/
theorem resetMeetsInvariant : Obligations.ResetMeetsInvariant := ⟨by decide, rfl⟩

/-! ### The header -/

theorem extractLsb'_toNat_eq_div {w : Nat} (b : BitVec w) (i n : Nat) :
    (b.extractLsb' i n).toNat = b.toNat / 2 ^ i % 2 ^ n := by
  rw [BitVec.extractLsb'_toNat, Nat.shiftRight_eq_div_pow]

theorem getLsbD_iff_div {w : Nat} (b : BitVec w) (i : Nat) : b.getLsbD i = true ↔ b.toNat / 2 ^ i % 2 = 1 := by
  rw [BitVec.getLsbD, Nat.testBit_eq_decide_div_mod_eq, decide_eq_true_iff]

/-- The magic, byte by byte (R492). -/
theorem take_four_eq_magic_iff (img : List Byte) (h : 4 ≤ img.length) : img.take 4 = magic ↔
    (img.getD 0 0#8).toNat = 0x4E ∧ (img.getD 1 0#8).toNat = 0x45 ∧ (img.getD 2 0#8).toNat = 0x53 ∧
      (img.getD 3 0#8).toNat = 0x1A := by
  match img, h with
  | a :: b :: c :: d :: rest, _ =>
    have hbyte : ∀ (x : Byte) (n : Nat), n < 256 → (x = BitVec.ofNat 8 n ↔ x.toNat = n) := fun x n hn => by
      rw [← BitVec.toNat_inj, BitVec.toNat_ofNat, Nat.mod_eq_of_lt hn]
    simp [magic, hbyte]

theorem trainerBytes_eq (img : List Byte) :
    trainerBytes img = if (img.getD 6 0#8).toNat / 4 % 2 = 1 then 512 else 0 :=
  if_congr (getLsbD_iff_div _ 2) rfl rfl

/-- The extended format's mark, bits 3 and 2 of byte 7 (R493). -/
theorem formatBits_ne_iff (b : Byte) : b.extractLsb' 2 2 ≠ 2#2 ↔ b.toNat / 4 % 4 ≠ 2 := by
  rw [Ne, ← BitVec.toNat_inj, extractLsb'_toNat_eq_div]
  rfl

/-- An image of good format, by its bytes (R491, R493). -/
def GoodImage (img : List Byte) : Prop :=
  let byte := fun n => (img.getD n 0#8).toNat
  16 ≤ img.length ∧ byte 0 = 0x4E ∧ byte 1 = 0x45 ∧ byte 2 = 0x53 ∧ byte 3 = 0x1A ∧ byte 7 / 4 % 4 ≠ 2 ∧
    1 ≤ byte 4 ∧ byte 4 ≤ 32 ∧ byte 5 ≤ 32 ∧
    16 + (if byte 6 / 4 % 2 = 1 then 512 else 0) + byte 4 * 16384 + byte 5 * 8192 ≤ img.length

theorem formatOk_iff (img : List Byte) : formatOk img = true ↔ GoodImage img := by
  have hsize : declaredSize img = 16 + (if (img.getD 6 0#8).toNat / 4 % 2 = 1 then 512 else 0) +
      (img.getD 4 0#8).toNat * 16384 + (img.getD 5 0#8).toNat * 8192 := by
    rw [declaredSize, trainerBytes_eq]
    rfl
  simp only [formatOk, GoodImage, Bool.and_eq_true, decide_eq_true_iff, and_assoc, hsize]
  refine and_congr_right fun hlen => ?_
  rw [take_four_eq_magic_iff img (Nat.le_trans (by decide) hlen), and_assoc, and_assoc, and_assoc,
    headerByte, formatBits_ne_iff, Nat.one_le_iff_ne_zero]
  rfl

/-- Two high nibbles, one after the other. -/
theorem nibbles_toNat (b c : Byte) : ((b &&& 0xF0#8) ||| (c >>> 4)).toNat = b.toNat / 16 * 16 + c.toNat / 16 := by
  have happend : (b &&& 0xF0#8) ||| (c >>> 4) = b.extractLsb' 4 4 ++ c.extractLsb' 4 4 := by
    refine BitVec.eq_of_getLsbD_eq fun i hi => ?_
    rw [BitVec.getLsbD_append]
    interval_cases i <;> simp
  have hb := b.isLt
  have hc := c.isLt
  rw [happend, append_toNat, extractLsb'_toNat_eq_div, extractLsb'_toNat_eq_div]
  omega

/-- The mapper identifier (R494). -/
theorem mapperId_eq (img : List Byte) :
    let full := (img.getD 7 0#8).toNat / 16 * 16 + (img.getD 6 0#8).toNat / 16
    mapperId img = if (img.getD 10 0#8).toNat % 16 = 0 then full else full % 16 := by
  intro full
  have hfull : ((headerByte img 7 &&& 0xF0#8) ||| (headerByte img 6 >>> 4)).toNat = full :=
    nibbles_toNat ..
  have hlow : ∀ b : Byte, (b &&& 0x0F#8).toNat = b.toNat % 16 := fun b =>
    (BitVec.toNat_and ..).trans (Nat.and_two_pow_sub_one_eq_mod _ 4)
  have hzero : headerByte img 10 &&& 0x0F#8 = 0#8 ↔ (img.getD 10 0#8).toNat % 16 = 0 := by
    rw [← BitVec.toNat_inj, hlow]
    rfl
  rw [mapperId, apply_ite BitVec.toNat, hlow, hfull]
  exact if_congr hzero rfl rfl

theorem mapperOf_eq_none_iff : ∀ id, mapperOf id = none ↔ 3 ≤ id
  | 0 | 1 | 2 => by decide
  | n + 3 => iff_of_true rfl (Nat.le_add_left 3 n)

/-! ### Loading -/

theorem loadCartridge_of_format {img : List Byte} (h : ¬GoodImage img) : loadCartridge img = .error .formatError :=
  if_neg (mt (formatOk_iff img).1 h)

theorem loadCartridge_of_none {img : List Byte} (h : GoodImage img) (hm : mapperOf (mapperId img) = none) :
    loadCartridge img = .error .unsupportedHardware := by
  rw [loadCartridge, if_pos ((formatOk_iff img).2 h), hm]

theorem loadCartridge_of_some {img : List Byte} {m : Mapper} (h : GoodImage img)
    (hm : mapperOf (mapperId img) = some m) : loadCartridge img = .ok (cartOf img, m) := by
  rw [loadCartridge, if_pos ((formatOk_iff img).2 h), hm]

/-- The outcomes of a load: a bad format, a good one with no mapper, a good one with a mapper. -/
theorem loadCartridge_cases (img : List Byte) :
    (¬GoodImage img ∧ loadCartridge img = .error .formatError) ∨
    (GoodImage img ∧ mapperOf (mapperId img) = none ∧ loadCartridge img = .error .unsupportedHardware) ∨
    ∃ m, GoodImage img ∧ mapperOf (mapperId img) = some m ∧ loadCartridge img = .ok (cartOf img, m) := by
  by_cases hgood : GoodImage img
  · cases hm : mapperOf (mapperId img) with
    | none => exact .inr (.inl ⟨hgood, rfl, loadCartridge_of_none hgood hm⟩)
    | some m => exact .inr (.inr ⟨m, hgood, rfl, loadCartridge_of_some hgood hm⟩)
  · exact .inl ⟨hgood, loadCartridge_of_format hgood⟩

/-- Settles O57: the format is read byte by byte, the mapper by its identifier. -/
theorem loadFailures : Obligations.LoadFailures := by
  intro img byte size good full id
  have hid : mapperId img = id := mapperId_eq img
  have hload : good → ∀ m, mapperOf id = some m → ∃ c, loadCartridge img = .ok (c, m) := fun hgood m hm =>
    ⟨_, loadCartridge_of_some hgood (hid ▸ hm)⟩
  refine ⟨?_, ?_, fun hgood h => hload hgood _ (h ▸ rfl), fun hgood h => hload hgood _ (h ▸ rfl),
    fun hgood h => hload hgood _ (h ▸ rfl)⟩
  · obtain ⟨hgood, h⟩ | ⟨hgood, -, h⟩ | ⟨m, hgood, -, h⟩ := loadCartridge_cases img <;> rw [h]
    · exact iff_of_true rfl hgood
    · exact iff_of_false nofun (not_not_intro hgood)
    · exact iff_of_false nofun (not_not_intro hgood)
  · rw [← mapperOf_eq_none_iff, ← hid]
    obtain ⟨hgood, h⟩ | ⟨hgood, hm, h⟩ | ⟨m, hgood, hm, h⟩ := loadCartridge_cases img <;> rw [h]
    · exact iff_of_false nofun fun hunsupported => hgood hunsupported.1
    · exact iff_of_true rfl ⟨hgood, hm⟩
    · exact iff_of_false nofun fun hunsupported => nomatch hm.symm.trans hunsupported.2

/-! ### The loaded cartridge -/

theorem getD_take_drop (img : List Byte) (d : Byte) {a n k : Nat} (h : k < n) :
    ((img.drop a).take n).getD k d = img.getD (a + k) d := by
  rw [List.getD_eq_getElem?_getD, List.getElem?_take_of_lt h, List.getElem?_drop, List.getD_eq_getElem?_getD]

/-- Storage made of a slice of the image holds the slice's bytes. -/
theorem read_ofBytes_slice (img : List Byte) {a n k : Nat} (h : k < n) :
    (Memory.ofBytes unlistedByte 0 ((img.drop a).take n)).read unlistedByte k = img.getD (a + k) 0#8 := by
  have hread := Memory.read_ofBytes (d := unlistedByte) ((img.drop a).take n) 0 k
  rw [Nat.zero_add] at hread
  exact hread.trans (getD_take_drop img _ h)

theorem wf_ofBytes_slice (img : List Byte) (a n : Nat) :
    (Memory.ofBytes unlistedByte 0 ((img.drop a).take n)).wf unlistedByte n = true :=
  Memory.wfFrom_ofBytes _ 0 ((Nat.zero_add _).trans_le (List.length_take_le ..))

theorem mapperOf_inv {id : Nat} {m : Mapper} (h : mapperOf id = some m) : m.inv = true := by
  match id, h with
  | 0, h | 1, h | 2, h => cases h; rfl

/-- CHR-RAM is empty and CHR-ROM is a slice of the image. -/
theorem powerUpCart_chr_wf (img : List Byte) : (powerUpCart (cartOf img) InitMem.zero).chr.wf unlistedByte
    (chrBankCount (powerUpCart (cartOf img) InitMem.zero) * 8192) = true := by
  have hcount : chrBankCount (powerUpCart (cartOf img) InitMem.zero) =
    if headerChrBanks img = 0 then 32 else headerChrBanks img := rfl
  rw [hcount, powerUpCart, chrIsRam, show (cartOf img).chrBanks = headerChrBanks img from rfl]
  by_cases hram : headerChrBanks img = 0
  · rw [if_pos (decide_eq_true hram), if_pos hram]
    rfl
  · rw [if_neg (ne_true_of_eq_false (decide_eq_false hram)), if_neg hram]
    exact wf_ofBytes_slice ..

/-- The cartridge of a good image, powered up with zero memory, meets the invariant. -/
theorem powerUpCart_inv {img : List Byte} (h : GoodImage img) :
    (powerUpCart (cartOf img) InitMem.zero).inv = true := by
  obtain ⟨-, -, -, -, -, -, hlow, hprg, hchr, -⟩ := h
  exact (Cart.inv_iff _).2 ⟨hlow, hprg, hchr, wf_ofBytes_slice .., powerUpCart_chr_wf img, rfl⟩

theorem cartOf_trainer_length {img : List Byte} (h : GoodImage img) :
    (cartOf img).trainer.length = trainerBytes img := by
  obtain ⟨-, -, -, -, -, -, -, -, -, hsize⟩ := h
  rw [← trainerBytes_eq] at hsize
  rw [show (cartOf img).trainer = (img.drop 16).take (trainerBytes img) from rfl, List.length_take, List.length_drop]
  omega

/-- Settles O58: storage is the image's bytes from their place. -/
theorem loadedCartridge : Obligations.LoadedCartridge := by
  intro img c m hload byte trainer
  obtain ⟨-, h⟩ | ⟨-, -, h⟩ | ⟨m', hgood, hm, h⟩ := loadCartridge_cases img
  · exact absurd (h.symm.trans hload) nofun
  · exact absurd (h.symm.trans hload) nofun
  cases h.symm.trans hload
  refine ⟨rfl, rfl, rfl, rfl, rfl, rfl, rfl, rfl, rfl, cartOf_trainer_length hgood, fun k hk => getD_take_drop img _ hk,
    fun k hk => read_ofBytes_slice img hk, fun k hk => read_ofBytes_slice img hk, fun on1 on2 params => ?_⟩
  have hcpu : (powerUp (cartOf img) m InitMem.zero on1 on2 params).cpu.inv = true :=
    (Cpu.inv_iff _).2 ⟨(by decide : flagU 0x24#8 = true), (by decide : flagB 0x24#8 = false)⟩
  exact (State.inv_iff _).2 ⟨hcpu, rfl, rfl, rfl, powerUpCart_inv hgood, mapperOf_inv hm⟩

end Sys2Proof.Machine
end

section
/-! The return from an exception undoes its entry (60_exceptions.md R446, R452). -/

namespace Sys2Proof.Machine

/-- `u` is `s` with `pc` and `status` pushed as an exception entry pushes them, the other registers alike. -/
structure PushedBy (pc : Addr) (status : Byte) (s u : State) : Prop where
  regA : u.cpu.a = s.cpu.a
  regX : u.cpu.x = s.cpu.x
  regY : u.cpu.y = s.cpu.y
  regS : u.cpu.s = s.cpu.s - 3#8
  ram : u.ram = (ramWrite (ramWrite (ramWrite s (256 + s.cpu.s.toNat) (hiByte pc)) (256 + (s.cpu.s - 1#8).toNat)
    (loByte pc)) (256 + (s.cpu.s - 2#8).toNat) status).ram

/-- The three pushes lie at three addresses. -/
theorem stackCells_ne (s : Byte) : (s - 1#8).toNat ≠ s.toNat ∧ (s - 2#8).toNat ≠ s.toNat ∧
    (s - 2#8).toNat ≠ (s - 1#8).toNat := by
  have := s.isLt
  simp only [BitVec.toNat_sub, BitVec.toNat_ofNat]
  omega

variable {pc : Addr} {status : Byte} {s u : State}

theorem PushedBy.ramRead (h : PushedBy pc status s u) (hinv : s.inv = true) :
    ramRead u (256 + (s.cpu.s - 2#8).toNat) = status ∧ ramRead u (256 + (s.cpu.s - 1#8).toNat) = loByte pc ∧
      ramRead u (256 + s.cpu.s.toNat) = hiByte pc := by
  obtain ⟨-, -, hwf, -⟩ := (State.inv_iff s).1 hinv
  obtain ⟨h10, h20, h21⟩ := stackCells_ne s.cpu.s
  have hlt0 := s.cpu.s.isLt
  have hlt1 := (s.cpu.s - 1#8).isLt
  have hwf1 := Memory.wf_write (v := hiByte pc) hwf (a := 256 + s.cpu.s.toNat) (by omega)
  have hwf2 := Memory.wf_write (v := loByte pc) hwf1 (a := 256 + (s.cpu.s - 1#8).toNat) (by omega)
  have hram := h.ram
  simp only [ramWrite, State.setRam_ram] at hram
  simp only [Machine.ramRead, hram, Memory.read_write hwf2, Memory.read_write hwf1, Memory.read_write hwf]
  refine ⟨if_pos trivial, ?_, ?_⟩
  · rw [if_neg (by omega), if_pos trivial]
  · rw [if_neg (by omega), if_neg (by omega), if_pos trivial]

/-- `RTI` on the pushes of an entry resumes at `pc` with the status pushed. -/
theorem PushedBy.rti (h : PushedBy pc status s u) (hinv : s.inv = true) (hstatus : pulledStatus status = s.cpu.p) :
    ∃ t, exec .rti u = .next t ∧ t.cpu.pc = pc ∧ t.cpu.p = s.cpu.p ∧ OnlyChanges [] [] s t := by
  have hexec : exec .rti u = .next (returnFromException (u.setCyc 6)) := rfl
  obtain ⟨hp, hlo, hhi⟩ := h.ramRead hinv
  have h1 : u.cpu.s + 1#8 = s.cpu.s - 2#8 := by rw [h.regS]; bv_omega
  have h2 : u.cpu.s + 2#8 = s.cpu.s - 1#8 := by rw [h.regS]; bv_omega
  have h3 : u.cpu.s + 3#8 = s.cpu.s := by rw [h.regS]; bv_omega
  rw [returnFromException_eq, State.setCyc_cpu_s, h1, h2, h3] at hexec
  have hp' : pulledStatus (Machine.ramRead (u.setCyc 6) (256 + (s.cpu.s - 2#8).toNat)) = s.cpu.p :=
    (congrArg pulledStatus hp).trans hstatus
  have hpc' : word16 (Machine.ramRead (u.setCyc 6) (256 + s.cpu.s.toNat))
      (Machine.ramRead (u.setCyc 6) (256 + (s.cpu.s - 1#8).toNat)) = pc :=
    (congrArg₂ word16 hhi hlo).trans (word16_bytes pc)
  rw [hp', hpc'] at hexec
  exact ⟨_, hexec, rfl, rfl, onlyChanges_nothing h.regA h.regX h.regY rfl rfl⟩

theorem EntryOutcome.pushedBy {vector : Addr} (h : EntryOutcome vector s u) :
    PushedBy s.cpu.pc (pushedByEntry false s.cpu.p) s u := by
  obtain ⟨-, hs, -, ⟨hregs, -⟩, -, -, -, -, hram, -⟩ := h
  rw [← pushedByEntry_false] at hram
  exact ⟨hregs .a (by decide), hregs .x (by decide), hregs .y (by decide), hs, hram⟩

theorem pushedBy_brk (s : State) : PushedBy (s.cpu.pc + 1#16) (pushedByEntry true s.cpu.p) s (opBrk (s.setCyc 7)) := by
  rw [opBrk_eq, pushedByEntry_true]
  exact ⟨rfl, rfl, rfl, rfl, rfl⟩

/-- Settles O54: each entry is the same three pushes, and the invariant makes the status come back. -/
theorem entryThenRtiResumes : Obligations.EntryThenRtiResumes := by
  intro s hinv
  obtain ⟨hnmi, hirq, -⟩ := interruptEntry s
  obtain ⟨hu, hb⟩ := State.inv_flags hinv
  have hstatus : ∀ bflag, pulledStatus (pushedByEntry bflag s.cpu.p) = s.cpu.p := fun bflag =>
    pulledStatus_pushedByEntry bflag hu hb
  refine ⟨hnmi.pushedBy.rti hinv (hstatus false), fun hclear => (hirq hclear).pushedBy.rti hinv (hstatus false), ?_⟩
  obtain ⟨t, ht⟩ := (pushedBy_brk s).rti hinv (hstatus true)
  exact ⟨_, t, rfl, ht⟩

end Sys2Proof.Machine
end

section
/-! A PPU pulse seen from outside the pipelines: what an idle pulse changes, the frame buffers and their swap, the pixel
(47_ppu_background.md R341 to R344, 48_ppu_sprites_output.md R395 to R411). -/

namespace Sys2Proof.Machine

/-! ### The idle pulse -/

/-- `q` differs from `p` in the counters, the parity, the front number and the status flags alone. -/
def SamePipelines (p q : Ppu) : Prop :=
  q = { p with scanline := q.scanline, cycle := q.cycle, frameOdd := q.frameOdd, front := q.front, vblank := q.vblank,
               sprite0 := q.sprite0, overflow := q.overflow }

theorem SamePipelines.trans {p q r : Ppu} (h : SamePipelines p q) (k : SamePipelines q r) : SamePipelines p r := by
  refine Eq.trans k ?_
  rw [h]

theorem samePipelines_advance (p : Ppu) : SamePipelines p (advance p) := by
  unfold advance
  split_ifs <;> rfl

theorem samePipelines_frameSwap (l c : Nat) (p : Ppu) : SamePipelines p (frameSwap l c p) := by
  unfold frameSwap
  split <;> rfl

theorem samePipelines_flagEvents (l c : Nat) (s : State) : SamePipelines s.ppu (flagEvents l c s).ppu := by
  rw [flagEvents_ppu]
  split_ifs <;> rfl

theorem flagEvents_mask (l c : Nat) (s : State) : (flagEvents l c s).ppu.mask = s.ppu.mask := by
  rw [flagEvents_ppu]
  split_ifs <;> rfl

/-- With rendering off, or off the rendering lines, a pulse is its flag events, the swap and the advance. -/
theorem ppuPulse_idle {s : State} (h : renderingLine s.ppu.scanline = false ∨ renderingEnabled s.ppu = false) :
    (ppuPulse s).ppu =
      advance (frameSwap s.ppu.scanline s.ppu.cycle (flagEvents s.ppu.scanline s.ppu.cycle s).ppu) := by
  have hmask : renderingEnabled (flagEvents s.ppu.scanline s.ppu.cycle s).ppu = renderingEnabled s.ppu := by
    rw [renderingEnabled, Ppu.showBg, Ppu.showSp, flagEvents_mask]
    rfl
  rw [ppuPulse_ppu, renderWork_off _ _ _ (hmask ▸ h)]

theorem renderingLine_eq_false_of {l : Nat} (h : 239 < l ∧ l ≠ 261) : renderingLine l = false := by
  simp [renderingLine]
  omega

/-- Settles O46: an idle pulse has no rendering part. -/
theorem idlePulse : Obligations.IdlePulse := by
  intro s h p q
  have hidle : renderingLine p.scanline = false ∨ renderingEnabled p = false :=
    h.symm.imp renderingLine_eq_false_of fun ⟨hbg, hsp⟩ => by
      rw [renderingEnabled, Ppu.showBg, Ppu.showSp, hbg, hsp]
      rfl
  have hq : q = _ := ppuPulse_idle hidle
  refine ⟨?_, fun hpoint => ?_⟩
  · rw [hq]
    exact ((samePipelines_flagEvents ..).trans (samePipelines_frameSwap ..)).trans (samePipelines_advance _)
  · rw [hq, advance_sprite0, advance_overflow, frameSwap_sprite0, frameSwap_overflow, flagEvents_ppu, if_neg hpoint]
    split <;> exact ⟨rfl, rfl⟩

/-! ### The frame buffers -/

/-- Pixels are drawn on visible lines, cycles 1 to 256 (R341). -/
def DrawsAt (l c : Nat) : Prop := l ≤ 239 ∧ 1 ≤ c ∧ c ≤ 256

/-- The buffers and the sprite-0 flag as part 2 of a pulse leaves them. -/
structure SameOutput (p q : Ppu) : Prop where
  fb0 : q.fb0 = p.fb0
  fb1 : q.fb1 = p.fb1
  front : q.front = p.front
  sprite0 : q.sprite0 = p.sprite0

theorem SameOutput.refl (p : Ppu) : SameOutput p p := ⟨rfl, rfl, rfl, rfl⟩

/-- The pipelines draw nothing. -/
theorem sameOutput_steps (l c : Nat) (s : State) : SameOutput s.ppu (spriteStep l c (backgroundStep l c s)).ppu := by
  constructor <;> simp

theorem outputPixel_of_off {clip : Bool} {l c : Nat} {p : Ppu} (h : ¬(p.showBg = true ∧ p.showSp = true)) :
    outputPixel clip l c p = p := if_neg (by rwa [Bool.and_eq_true])

/-- Part 2 of a pulse that may draw leaves the pixel in the buffers. -/
theorem sameOutput_renderWork_of_draws {l c : Nat} (h : DrawsAt l c) (s : State) :
    SameOutput (outputPixel s.params.leftClip l c s.ppu) (renderWork l c s).ppu := by
  have hline : renderingLine l = true := by simp [renderingLine, h.1]
  cases hon : renderingEnabled s.ppu with
  | true =>
    have hdraws : l ≤ 239 ∧ 1 ≤ c ∧ c ≤ 256 := h
    rw [renderWork_on l c s hline hon, if_pos hdraws]
    exact sameOutput_steps l c (s.setPpu _)
  | false =>
    have hoff : ¬(s.ppu.showBg = true ∧ s.ppu.showSp = true) := fun hboth => by
      rw [renderingEnabled, hboth.1] at hon
      cases hon
    rw [renderWork_off l c s (.inr hon), outputPixel_of_off hoff]
    exact .refl _

theorem sameOutput_renderWork_of_not_draws {l c : Nat} (h : ¬DrawsAt l c) (s : State) :
    SameOutput s.ppu (renderWork l c s).ppu := by
  unfold renderWork
  split
  · have hidle : ¬(l ≤ 239 ∧ 1 ≤ c ∧ c ≤ 256) := h
    rw [if_neg hidle]
    exact sameOutput_steps l c s
  · exact .refl _

theorem flagEvents_of_visible {l : Nat} (h : l ≤ 239) (c : Nat) (s : State) : flagEvents l c s = s := by
  rw [flagEvents, if_neg (by omega), if_neg (by omega)]

/-- A pulse that may draw leaves its pixel in the buffers and the sprite-0 flag. -/
theorem ppuPulse_of_draws {s : State} (h : DrawsAt s.ppu.scanline s.ppu.cycle) :
    let pixel := outputPixel s.params.leftClip s.ppu.scanline s.ppu.cycle s.ppu
    (ppuPulse s).ppu.fb0 = pixel.fb0 ∧ (ppuPulse s).ppu.fb1 = pixel.fb1 ∧ (ppuPulse s).ppu.sprite0 = pixel.sprite0 := by
  have hwork := sameOutput_renderWork_of_draws h s
  rw [ppuPulse_ppu, flagEvents_of_visible h.1]
  simp only [advance_fb0, advance_fb1, advance_sprite0, frameSwap_fb0, frameSwap_fb1, frameSwap_sprite0]
  exact ⟨hwork.fb0, hwork.fb1, hwork.sprite0⟩

theorem ppuPulse_of_not_draws {s : State} (h : ¬DrawsAt s.ppu.scanline s.ppu.cycle) :
    (ppuPulse s).ppu.fb0 = s.ppu.fb0 ∧ (ppuPulse s).ppu.fb1 = s.ppu.fb1 := by
  have hwork := sameOutput_renderWork_of_not_draws h (flagEvents s.ppu.scanline s.ppu.cycle s)
  rw [ppuPulse_ppu, advance_fb0, advance_fb1, frameSwap_fb0, frameSwap_fb1, hwork.fb0, hwork.fb1, flagEvents_ppu]
  split_ifs <;> exact ⟨rfl, rfl⟩

/-- The buffers change places at (239, 256) alone (R410). -/
theorem ppuPulse_front (s : State) : (ppuPulse s).ppu.front =
    if s.ppu.scanline = 239 ∧ s.ppu.cycle = 256 then !s.ppu.front else s.ppu.front := by
  have hwork : (renderWork s.ppu.scanline s.ppu.cycle (flagEvents s.ppu.scanline s.ppu.cycle s)).ppu.front =
      s.ppu.front := by
    by_cases h : DrawsAt s.ppu.scanline s.ppu.cycle
    · rw [flagEvents_of_visible h.1, (sameOutput_renderWork_of_draws h s).front, outputPixel_front]
    · rw [(sameOutput_renderWork_of_not_draws h _).front, flagEvents_ppu]
      split_ifs <;> rfl
  rw [ppuPulse_ppu, advance_front, frameSwap_eq, hwork]

/-- The pixel goes into the back buffer. -/
theorem frontBuffer_outputPixel (clip : Bool) (l c : Nat) (p : Ppu) :
    (if p.front then (outputPixel clip l c p).fb1 else (outputPixel clip l c p).fb0) = frontBuffer p := by
  rw [outputPixel_eq, frontBuffer]
  cases p.front <;> simp

/-- Settles O52: the pixel is the only write of a buffer, and it goes into the back one. -/
theorem frontBufferIsNotWritten : Obligations.FrontBufferIsNotWritten := by
  intro s p q
  by_cases hdraws : DrawsAt p.scanline p.cycle
  · obtain ⟨hfb0, hfb1, -⟩ := ppuPulse_of_draws hdraws
    refine ⟨?_, fun hoff => ?_, ppuPulse_front s⟩
    · rw [hfb0, hfb1]
      exact frontBuffer_outputPixel ..
    · have hpixel := outputPixel_of_off (clip := s.params.leftClip) (l := p.scanline) (c := p.cycle) (p := p)
        fun hon => hoff ⟨hdraws.1, hdraws.2.1, hdraws.2.2, hon⟩
      rw [hfb0, hfb1, hpixel]
      exact ⟨rfl, rfl⟩
  · obtain ⟨hfb0, hfb1⟩ := ppuPulse_of_not_draws hdraws
    refine ⟨?_, fun _ => ⟨hfb0, hfb1⟩, ppuPulse_front s⟩
    rw [hfb0, hfb1]
    rfl

/-! ### The pixel -/

section Framebuffer

variable {fb : Memory} (hwf : fb.wf unlistedByte Config.frameBytes = true) {row col : Nat} (hrow : row < 240)
  (hcol : col < 256) (rgb : Rgb)
include hwf hrow hcol

theorem read_writePixel (i : Nat) : (writePixel fb row col rgb).read unlistedByte i =
    if i = pixelBase row col + 2 then rgb.blue else if i = pixelBase row col + 1 then rgb.green
    else if i = pixelBase row col then rgb.red else fb.read unlistedByte i := by
  have hbase : pixelBase row col + 2 < Config.frameBytes := by
    simp only [pixelBase, Config.frameBytes]
    omega
  have hwf1 := Memory.wf_write (v := rgb.red) hwf (a := pixelBase row col) (by omega)
  have hwf2 := Memory.wf_write (v := rgb.green) hwf1 (a := pixelBase row col + 1) (by omega)
  rw [writePixel, Memory.read_write hwf2, Memory.read_write hwf1, Memory.read_write hwf]

theorem readPixel_writePixel_same : readPixel (writePixel fb row col rgb) row col = rgb := by
  simp [readPixel, read_writePixel hwf hrow hcol]

/-- Pixels of different places share no byte. -/
theorem readPixel_writePixel_other {row' col' : Nat} (hcol' : col' < 256) (h : (row', col') ≠ (row, col)) :
    readPixel (writePixel fb row col rgb) row' col' = readPixel fb row' col' := by
  have hne : row' ≠ row ∨ col' ≠ col := by
    rw [Ne, Prod.mk.injEq] at h
    exact not_and_or.1 h
  have hbase : pixelBase row col = 3 * (256 * row + col) := rfl
  have hbase' : pixelBase row' col' = 3 * (256 * row' + col') := rfl
  have hbyte : ∀ k < 3, (writePixel fb row col rgb).read unlistedByte (pixelBase row' col' + k) =
      fb.read unlistedByte (pixelBase row' col' + k) := fun k hk => by
    rw [read_writePixel hwf hrow hcol, if_neg (by omega), if_neg (by omega), if_neg (by omega)]
  have hred := hbyte 0 (by decide)
  rw [readPixel, hbyte 1 (by decide), hbyte 2 (by decide), ← Nat.add_zero (pixelBase row' col'), hred]
  rfl

end Framebuffer

theorem backBuffer_outputPixel {clip : Bool} {l c : Nat} {p : Ppu} (hbg : p.showBg = true) (hsp : p.showSp = true) :
    (if p.front then (outputPixel clip l c p).fb0 else (outputPixel clip l c p).fb1) =
      writePixel (backBuffer p) l (c - 1) (colour p (pixelIndexAt clip p c)) := by
  rw [outputPixel_eq, hbg, hsp]
  cases p.front <;> simp

theorem outputPixel_sprite0 {clip : Bool} {l c : Nat} {p : Ppu} (hbg : p.showBg = true) (hsp : p.showSp = true) :
    (outputPixel clip l c p).sprite0 = (p.sprite0 || sprite0HitAt clip p c) := by
  rw [outputPixel_eq, hbg, hsp]
  rfl

/-- Composition as arithmetic: a sprite's palettes are the indices from 16 on (R396). -/
theorem compose_toNat (bp bpal sp spal : BitVec 2) (behind : Bool) : (compose bp bpal sp spal behind).toNat =
    if sp.toNat ≠ 0 ∧ (bp.toNat = 0 ∨ behind = false) then 16 + 4 * spal.toNat + sp.toNat
    else if bp.toNat ≠ 0 then 4 * bpal.toNat + bp.toNat else 0 := by
  have hzero : ∀ x : BitVec 2, x = 0#2 ↔ x.toNat = 0 := fun x => BitVec.toNat_inj.symm
  simp only [compose, Ne, hzero]
  split
  · rw [append_toNat, append_toNat, BitVec.toNat_ofNat]
    omega
  · split
    · rw [append_toNat, append_toNat, BitVec.toNat_ofNat]
      omega
    · rfl

/-- Greyscale keeps the two high bits of the code (R403). -/
theorem colourCode_eq (p : Ppu) (idx : BitVec 5) :
    let e := (palRead p idx.toNat).toNat % 64
    colourCode p idx = BitVec.ofNat 6 (if p.mask.getLsbD 0 then e / 16 * 16 else e) := by
  intro e
  have hgrey : ∀ b : BitVec 6, b &&& 0x30#6 = BitVec.ofNat 6 (b.toNat / 16 * 16) := by decide
  have he : BitVec.ofNat 6 e = (palRead p idx.toNat).setWidth 6 :=
    BitVec.eq_of_toNat_eq (by rw [BitVec.toNat_setWidth, BitVec.toNat_ofNat]; exact Nat.mod_mod ..)
  rw [colourCode, Ppu.grey]
  split
  · rw [hgrey, BitVec.toNat_setWidth]
  · exact he.symm

/-- Left-column clipping reaches the first eight columns, under its launch parameter (R399; log 9). -/
theorem clipped_iff {clip shown : Bool} {c : Nat} (hc : 1 ≤ c) :
    (clip && decide (c - 1 < 8) && !shown) = true ↔ (clip = true ∧ c ≤ 8) ∧ shown = false := by
  rw [Bool.and_eq_true, Bool.and_eq_true, decide_eq_true_iff, Bool.not_eq_true', Nat.sub_lt_iff_lt_add hc]
  exact and_congr_left' (and_congr_right' Nat.lt_succ_iff)

theorem bgValueAt_toNat {clip : Bool} {p : Ppu} {c : Nat} (hc : 1 ≤ c) : (bgValueAt clip p c).toNat =
    if (clip = true ∧ c ≤ 8) ∧ p.mask.getLsbD 1 = false then 0
    else 2 * (p.bgHi.getLsbD (15 - p.x.toNat)).toNat + (p.bgLo.getLsbD (15 - p.x.toNat)).toNat := by
  have hvalue : (bgPixelValue p).toNat =
      2 * (p.bgHi.getLsbD (15 - p.x.toNat)).toNat + (p.bgLo.getLsbD (15 - p.x.toNat)).toNat := by
    rw [bgPixelValue, append_toNat, BitVec.toNat_ofBool, BitVec.toNat_ofBool, Nat.pow_one]
  rw [bgValueAt, apply_ite BitVec.toNat, hvalue]
  exact if_congr (clipped_iff hc) rfl rfl

theorem spriteDotAt_eq {clip : Bool} {p : Ppu} {c : Nat} (hc : 1 ≤ c) : spriteDotAt clip p c =
    if (clip = true ∧ c ≤ 8) ∧ p.mask.getLsbD 2 = false then SpriteDot.none else spritePixel p (c - 1) :=
  if_congr (clipped_iff hc) rfl rfl

/-- Settles O51: the pulse draws the pixel its own PPU composes. -/
theorem pixelOutput : Obligations.PixelOutput := by
  intro s hline h1 h256 hbg hsp hwf0 hwf1 p q c x clip bp bpal dot idx e code drawn
  obtain ⟨hfb0, hfb1, hsprite0⟩ := ppuPulse_of_draws ⟨hline, h1, h256⟩
  have hwf : (backBuffer p).wf unlistedByte Config.frameBytes = true := by
    unfold backBuffer
    split <;> assumption
  have hrow : s.ppu.scanline < 240 := Nat.lt_succ_of_le hline
  have hcol : s.ppu.cycle - 1 < 256 := by omega
  have hdot : spriteDotAt s.params.leftClip p c = dot := spriteDotAt_eq h1
  have hbp : (bgValueAt s.params.leftClip p c).toNat = bp := bgValueAt_toNat h1
  have hidx : (pixelIndexAt s.params.leftClip p c).toNat = idx := by
    rw [pixelIndexAt, compose_toNat, hdot, hbp]
    rfl
  have hcolour : colour p (pixelIndexAt s.params.leftClip p c) = Config.hardwarePalette (BitVec.ofNat 6 code) := by
    rw [colour, colourCode_eq, hidx]
  have hdrawn : drawn =
      writePixel (backBuffer p) p.scanline (c - 1) (Config.hardwarePalette (BitVec.ofNat 6 code)) := by
    rw [← hcolour, ← backBuffer_outputPixel hbg hsp, ← hfb0, ← hfb1]
  refine ⟨?_, fun row' col' _ hcol' hne => ?_, ?_⟩
  · rw [hdrawn, readPixel_writePixel_same hwf hrow hcol]
  · rw [hdrawn, readPixel_writePixel_other hwf hrow hcol _ hcol' hne]
  · have hbp0 : decide (bgValueAt s.params.leftClip p c ≠ 0#2) = decide (bp ≠ 0) := by
      rw [← hbp]
      exact decide_eq_decide.2 (not_congr BitVec.toNat_inj.symm)
    rw [hsprite0, outputPixel_sprite0 hbg hsp, sprite0HitAt, hdot, hbp0]

end Sys2Proof.Machine
end
